-- ==== Sys2Proof/Word.lean ====
section
/-! DEFINITION. The value types of PB0: nibbles, bytes (one character each), strings, DES blocks (00_scope R7). -/

namespace Sys2Proof

/-- A 4-bit unsigned integer (R7). -/
abbrev Nibble := BitVec 4

/-- An 8-bit unsigned integer; a character is one byte carried on the port (R7, R77). -/
abbrev Byte := BitVec 8

/-- A string: a finite sequence of characters, indexed from 0 (R7). -/
abbrev Str := List Byte

/-- A 64-bit DES block or key, DES bit 1 the most significant (R150). -/
abbrev Block := BitVec 64

end Sys2Proof
end

