-- ==== Sys2Proof/Config.lean ====
section
/-! DEFINITION. What an implementation of PB0 fixes: the one model argument NBLK (00_scope R6, 92 D7 and D35).
No free value is needed: every result the spec gives is determined, and T_EXEC is the freedom of `State.inbox`. -/

namespace Sys2Proof

/-- The parameters of one PB0. NBLK is an integer from 1 to 15 (R6, U5); it is held less one, so that no other
value can be written down. -/
structure Config where
  nblkLessOne : Fin 15
  deriving DecidableEq, Repr

/-- NBLK, the capacity of A, B and OUT in 8-byte blocks (R6). -/
def Config.nblk (c : Config) : Nat := c.nblkLessOne.val + 1

/-- The default, NBLK = 1 (R6). -/
def Config.default : Config := ⟨0⟩

/-- PB0 with a given NBLK; values above 15 or 0 are not values of NBLK and give the nearest one. -/
def Config.ofNblk (n : Nat) : Config := ⟨⟨min (n - 1) 14, by omega⟩⟩

end Sys2Proof
end

