-- ==== Sys2Proof/Syntax.lean ====
section
/-! DEFINITION. The two levels of instruction of PB0 (30_encoding R70 to R73): port transactions and command bytes,
one constructor of `Instr` for each row of spec/opcode_table.json. -/

namespace Sys2Proof

/-- One port transaction (20_memory R50, 30_encoding R70): a write carries the host's byte, a read carries none,
because the data of a read is the byte PB0 returns. -/
inductive Transaction where
  | write (addr : BitVec 4) (data : Byte)   -- HostWrite(addr, data)
  | read (addr : BitVec 4)                  -- HostRead(addr)
  deriving DecidableEq, Repr

/-- One constructor per row of the opcode table, in the table's order. A row that covers a range of command bytes
carries the byte, a row that covers a range of addresses carries the address; `WellFormed` says which belong. -/
inductive Instr where
  -- CMD8 rows: command bytes (R71, R72)
  | nop                                            -- 0x00, R112
  | encode                                         -- 0x01, R122
  | decode                                         -- 0x02, R123
  | encrypt                                        -- 0x03, R141
  | decrypt                                        -- 0x04, R142
  | xorhex                                         -- 0x05, R171
  | clear                                          -- 0x0F, R113
  | illegal06_07 (v : Byte)                        -- R117
  | illegal08_0B (v : Byte)
  | illegal0C_0D (v : Byte)
  | illegal0E
  | illegal10_1F (v : Byte)
  | illegal20_3F (v : Byte)
  | illegal40_7F (v : Byte)
  | illegal80_FF (v : Byte)
  -- PORT rows: transactions (R70, R73)
  | cmd (v : Byte)                                 -- W 0 vv, R111
  | rdStatus                                       -- R 1, R107
  | rdErrcode                                      -- R 2, R108
  | rdOutlen                                       -- R 3, R109
  | pop                                            -- R 4, R110
  | pushPin (v : Byte)                             -- W 8 vv, R102
  | pushPan (v : Byte)                             -- W 9 vv, R103
  | pushKey (v : Byte)                             -- W A vv, R104
  | pushA (v : Byte)                               -- W B vv, R105
  | pushB (v : Byte)                               -- W C vv, R106
  -- inert accesses (R56)
  | inertR0                                        -- R 0
  | inertR5                                        -- R 5
  | inertR6_7 (addr : BitVec 4)                    -- R 6, R 7
  | inertR8_F (addr : BitVec 4)                    -- R 8 to R F
  | inertW1 (v : Byte)                             -- W 1 vv
  | inertW2_3 (addr : BitVec 4) (v : Byte)         -- W 2 vv, W 3 vv
  | inertW4_7 (addr : BitVec 4) (v : Byte)         -- W 4 vv to W 7 vv
  | inertWD (v : Byte)                             -- W D vv
  | inertWE_F (addr : BitVec 4) (v : Byte)         -- W E vv, W F vv
  deriving DecidableEq, Repr

end Sys2Proof
end

