-- ==== Sys2Proof/WellFormed.lean ====
section
/-! DEFINITION. Which terms of `Instr` are instructions: the byte or address a range row carries lies in the row's
range (opcode_table.json; 30_encoding R72 to R74). Every other field is free at its full width. -/

namespace Sys2Proof

/-- The command byte or address of a range row belongs to that row. -/
def Instr.wellFormed : Instr → Bool
  | .illegal06_07 v => v &&& 0xFE#8 == 0x06#8
  | .illegal08_0B v => v &&& 0xFC#8 == 0x08#8
  | .illegal0C_0D v => v &&& 0xFE#8 == 0x0C#8
  | .illegal10_1F v => v &&& 0xF0#8 == 0x10#8
  | .illegal20_3F v => v &&& 0xE0#8 == 0x20#8
  | .illegal40_7F v => v &&& 0xC0#8 == 0x40#8
  | .illegal80_FF v => v &&& 0x80#8 == 0x80#8
  | .inertR6_7 a => a &&& 0xE#4 == 0x6#4
  | .inertR8_F a => a &&& 0x8#4 == 0x8#4
  | .inertW2_3 a _ => a &&& 0xE#4 == 0x2#4
  | .inertW4_7 a _ => a &&& 0xC#4 == 0x4#4
  | .inertWE_F a _ => a &&& 0xE#4 == 0xE#4
  | .nop | .encode | .decode | .encrypt | .decrypt | .xorhex | .clear | .illegal0E => true
  | .cmd _ | .rdStatus | .rdErrcode | .rdOutlen | .pop => true
  | .pushPin _ | .pushPan _ | .pushKey _ | .pushA _ | .pushB _ => true
  | .inertR0 | .inertR5 | .inertW1 _ | .inertWD _ => true

end Sys2Proof
end

