-- ==== Sys2Proof/Decode.lean ====
section
/-! DEFINITION. Decoding, total on all 256 command bytes and all 32 pairs of direction and address (30_encoding R75),
and after it the encoder. Words are laid out as opcode_table.json numbers them: CMD8 is one byte, PORT is the 13-bit
word {d, addr[3:0], data[7:0]} of R70 in two bytes, low byte first. -/

namespace Sys2Proof

/-- The command opcode map (R72); the match is on the full byte (R71). -/
def decodeCmd (v : Byte) : Instr :=
  if v = 0x00#8 then .nop
  else if v = 0x01#8 then .encode
  else if v = 0x02#8 then .decode
  else if v = 0x03#8 then .encrypt
  else if v = 0x04#8 then .decrypt
  else if v = 0x05#8 then .xorhex
  else if v = 0x0F#8 then .clear
  else if v &&& 0xFE#8 = 0x06#8 then .illegal06_07 v
  else if v &&& 0xFC#8 = 0x08#8 then .illegal08_0B v
  else if v &&& 0xFE#8 = 0x0C#8 then .illegal0C_0D v
  else if v = 0x0E#8 then .illegal0E
  else if v &&& 0xF0#8 = 0x10#8 then .illegal10_1F v
  else if v &&& 0xE0#8 = 0x20#8 then .illegal20_3F v
  else if v &&& 0xC0#8 = 0x40#8 then .illegal40_7F v
  else .illegal80_FF v

/-- The port opcode map (R73) with the inert accesses (R56). -/
def decodePort : Transaction → Instr
  | .read a =>
    if a = 0x0#4 then .inertR0
    else if a = 0x1#4 then .rdStatus
    else if a = 0x2#4 then .rdErrcode
    else if a = 0x3#4 then .rdOutlen
    else if a = 0x4#4 then .pop
    else if a = 0x5#4 then .inertR5
    else if a &&& 0xE#4 = 0x6#4 then .inertR6_7 a
    else .inertR8_F a
  | .write a v =>
    if a = 0x0#4 then .cmd v
    else if a = 0x1#4 then .inertW1 v
    else if a &&& 0xE#4 = 0x2#4 then .inertW2_3 a v
    else if a &&& 0xC#4 = 0x4#4 then .inertW4_7 a v
    else if a = 0x8#4 then .pushPin v
    else if a = 0x9#4 then .pushPan v
    else if a = 0xA#4 then .pushKey v
    else if a = 0xB#4 then .pushA v
    else if a = 0xC#4 then .pushB v
    else if a = 0xD#4 then .inertWD v
    else .inertWE_F a v

/-- Why bytes are no instruction word of the opcode table. -/
inductive DecodeError where
  | wrongLength     -- neither one byte (CMD8) nor two (PORT)
  | unusedBits      -- bits 15:13 of a two-byte word, which the 13-bit PORT word does not have, are not 0
  deriving DecidableEq, Repr

/-- The transaction of a 13-bit PORT word in two bytes: bit 12 the direction (1 for a write), bits 11:8 the address,
bits 7:0 the data (R70). The data bits of a read are PB0's answer and are not read here (log entry 10). -/
def transactionOfBytes (lo hi : Byte) : Except DecodeError Transaction :=
  if hi &&& 0xE0#8 = 0x00#8 then
    .ok (if hi.getLsbD 4 then .write (hi.setWidth 4) lo else .read (hi.setWidth 4))
  else .error .unusedBits

/-- An instruction from the bytes of one opcode-table word, lowest first. -/
def decodeBytes : List Byte → Except DecodeError Instr
  | [v] => .ok (decodeCmd v)
  | [lo, hi] => (transactionOfBytes lo hi).map decodePort
  | _ => .error .wrongLength

/-- The two bytes of a transaction's PORT word. -/
def Transaction.toBytes : Transaction → List Byte
  | .write a v => [v, 0x10#8 ||| a.setWidth 8]
  | .read a => [0x00#8, a.setWidth 8]

/-- The bytes of an instruction's word, lowest first, from the encodings of opcode_table.json. -/
def encode : Instr → List Byte
  | .nop => [0x00#8]
  | .encode => [0x01#8]
  | .decode => [0x02#8]
  | .encrypt => [0x03#8]
  | .decrypt => [0x04#8]
  | .xorhex => [0x05#8]
  | .clear => [0x0F#8]
  | .illegal06_07 v => [v]
  | .illegal08_0B v => [v]
  | .illegal0C_0D v => [v]
  | .illegal0E => [0x0E#8]
  | .illegal10_1F v => [v]
  | .illegal20_3F v => [v]
  | .illegal40_7F v => [v]
  | .illegal80_FF v => [v]
  | .cmd v => Transaction.toBytes (.write 0x0#4 v)
  | .rdStatus => Transaction.toBytes (.read 0x1#4)
  | .rdErrcode => Transaction.toBytes (.read 0x2#4)
  | .rdOutlen => Transaction.toBytes (.read 0x3#4)
  | .pop => Transaction.toBytes (.read 0x4#4)
  | .pushPin v => Transaction.toBytes (.write 0x8#4 v)
  | .pushPan v => Transaction.toBytes (.write 0x9#4 v)
  | .pushKey v => Transaction.toBytes (.write 0xA#4 v)
  | .pushA v => Transaction.toBytes (.write 0xB#4 v)
  | .pushB v => Transaction.toBytes (.write 0xC#4 v)
  | .inertR0 => Transaction.toBytes (.read 0x0#4)
  | .inertR5 => Transaction.toBytes (.read 0x5#4)
  | .inertR6_7 a => Transaction.toBytes (.read a)
  | .inertR8_F a => Transaction.toBytes (.read a)
  | .inertW1 v => Transaction.toBytes (.write 0x1#4 v)
  | .inertW2_3 a v => Transaction.toBytes (.write a v)
  | .inertW4_7 a v => Transaction.toBytes (.write a v)
  | .inertWD v => Transaction.toBytes (.write 0xD#4 v)
  | .inertWE_F a v => Transaction.toBytes (.write a v)

/-- The bytes of an opcode-table word of `nbits` bits: one byte for CMD8, two for PORT (13 bits, two whole bytes);
none for a length no row has or a number too large for it. -/
def tableWordBytes (nbits w : Nat) : Option (List Byte) :=
  if nbits = 8 ∧ w < 256 then some [BitVec.ofNat 8 w]
  else if (nbits = 13 ∨ nbits = 16) ∧ w < 65536 then some [BitVec.ofNat 8 w, BitVec.ofNat 8 (w / 256)]
  else none

/-- The instruction the decoder reads from an opcode-table word, numbered as the table numbers its bits. -/
def decodeTableWord (nbits w : Nat) : Option Instr :=
  match tableWordBytes nbits w with
  | some bs => (decodeBytes bs).toOption
  | none => none

/-- The rows the core carries out: the five operations and the illegal bytes (R116, R117). -/
def Instr.isOperation : Instr → Bool
  | .encode | .decode | .encrypt | .decrypt | .xorhex => true
  | .illegal06_07 _ | .illegal08_0B _ | .illegal0C_0D _ | .illegal0E => true
  | .illegal10_1F _ | .illegal20_3F _ | .illegal40_7F _ | .illegal80_FF _ => true
  | .nop | .clear | .cmd _ | .rdStatus | .rdErrcode | .rdOutlen | .pop => false
  | .pushPin _ | .pushPan _ | .pushKey _ | .pushA _ | .pushB _ => false
  | .inertR0 | .inertR5 | .inertR6_7 _ | .inertR8_F _ => false
  | .inertW1 _ | .inertW2_3 _ _ | .inertW4_7 _ _ | .inertWD _ | .inertWE_F _ _ => false

/-- The rows of host reads (R73, R56). -/
def Instr.isRead : Instr → Bool
  | .rdStatus | .rdErrcode | .rdOutlen | .pop => true
  | .inertR0 | .inertR5 | .inertR6_7 _ | .inertR8_F _ => true
  | .nop | .encode | .decode | .encrypt | .decrypt | .xorhex | .clear => false
  | .illegal06_07 _ | .illegal08_0B _ | .illegal0C_0D _ | .illegal0E => false
  | .illegal10_1F _ | .illegal20_3F _ | .illegal40_7F _ | .illegal80_FF _ => false
  | .cmd _ | .pushPin _ | .pushPan _ | .pushKey _ | .pushA _ | .pushB _ => false
  | .inertW1 _ | .inertW2_3 _ _ | .inertW4_7 _ _ | .inertWD _ | .inertWE_F _ _ => false

/-- The CMD8 rows of opcode_table.json as (match, mask) pairs, in its order. -/
def cmdRows : List (Byte × Byte) :=
  [(0x00#8, 0xFF#8), (0x01#8, 0xFF#8), (0x02#8, 0xFF#8), (0x03#8, 0xFF#8), (0x04#8, 0xFF#8), (0x05#8, 0xFF#8),
   (0x0F#8, 0xFF#8), (0x06#8, 0xFE#8), (0x08#8, 0xFC#8), (0x0C#8, 0xFE#8), (0x0E#8, 0xFF#8), (0x10#8, 0xF0#8),
   (0x20#8, 0xE0#8), (0x40#8, 0xC0#8), (0x80#8, 0x80#8)]

/-- The PORT rows of opcode_table.json as (match, mask) pairs of 13-bit words, in its order. -/
def portRows : List (BitVec 13 × BitVec 13) :=
  [(0x1000, 0x1F00), (0x0100, 0x1F00), (0x0200, 0x1F00), (0x0300, 0x1F00), (0x0400, 0x1F00), (0x1800, 0x1F00),
   (0x1900, 0x1F00), (0x1A00, 0x1F00), (0x1B00, 0x1F00), (0x1C00, 0x1F00), (0x0000, 0x1F00), (0x0500, 0x1F00),
   (0x0600, 0x1E00), (0x0800, 0x1800), (0x1100, 0x1F00), (0x1200, 0x1E00), (0x1400, 0x1C00), (0x1D00, 0x1F00),
   (0x1E00, 0x1E00)]

/-- The place of an instruction's row among the rows of its format, in the table's order. -/
def Instr.rowIndex : Instr → Nat
  | .nop => 0
  | .encode => 1
  | .decode => 2
  | .encrypt => 3
  | .decrypt => 4
  | .xorhex => 5
  | .clear => 6
  | .illegal06_07 _ => 7
  | .illegal08_0B _ => 8
  | .illegal0C_0D _ => 9
  | .illegal0E => 10
  | .illegal10_1F _ => 11
  | .illegal20_3F _ => 12
  | .illegal40_7F _ => 13
  | .illegal80_FF _ => 14
  | .cmd _ => 0
  | .rdStatus => 1
  | .rdErrcode => 2
  | .rdOutlen => 3
  | .pop => 4
  | .pushPin _ => 5
  | .pushPan _ => 6
  | .pushKey _ => 7
  | .pushA _ => 8
  | .pushB _ => 9
  | .inertR0 => 10
  | .inertR5 => 11
  | .inertR6_7 _ => 12
  | .inertR8_F _ => 13
  | .inertW1 _ => 14
  | .inertW2_3 _ _ => 15
  | .inertW4_7 _ _ => 16
  | .inertWD _ => 17
  | .inertWE_F _ _ => 18

/-- An instruction word's bytes match a row of the opcode table: masked, the word is the row's match value. -/
def matchesRow (bs : List Byte) (row : Nat) : Bool :=
  match bs with
  | [v] => (cmdRows[row]?).any fun r => v &&& r.2 == r.1
  | [lo, hi] => (portRows[row]?).any fun r => (hi ++ lo).setWidth 13 &&& r.2 == r.1
  | _ => false

end Sys2Proof
end

