-- ==== Sys2Proof/Machine/State.lean ====
section
/-! DEFINITION. The state of PB0 as plain data (10_state R20), the reasons a step can stop, and the state right after
reset (10_state R39). -/

namespace Sys2Proof.Machine

/-- The closed enumeration of error kinds (60_exceptions R200). -/
inductive ErrorKind where
  | invalidPinLength     -- R201
  | invalidPanLength     -- R202
  | invalidBlockLength   -- R203
  | invalidLengthDigit   -- R204
  | pinOutOfRange        -- R205
  | invalidKeyLength     -- R206
  | invalidEncoding      -- R207
  | lengthMismatch       -- R208
  | cipherFailure        -- R209: kept so that the enumeration is the document's; no meaning raises it (R147)
  | illegalCommand       -- R210
  deriving DecidableEq, Repr

/-- A command's result (00_scope R9): output characters, or one error kind. -/
inductive Result where
  | ok (s : Str)
  | err (e : ErrorKind)
  deriving DecidableEq, Repr

/-- A capped operand buffer, PIN, KEY, A or B (R22, R24 to R26): the saturating counter and the stored characters
`ch[0 .. min(len, CAP))`; the cells above them hold 0x00 and are not listed (log entry 9). -/
structure CharBuf where
  len : Nat
  ch : Str
  deriving DecidableEq, Repr

/-- The PAN buffer (R23): a counter that saturates at 13 and the window of the last characters pushed. -/
structure PanBuf where
  len : Nat
  win : Str
  deriving DecidableEq, Repr

/-- One step that host, core or platform takes (40_command_execution R100), in the notation of R85. -/
inductive Event where
  | port (t : Transaction)   -- `W a dd` or `R a`: a host step
  | core                     -- `STEP`: the core's turn
  | reset                    -- `RESET`: the platform asserts rst
  deriving DecidableEq, Repr

/-- The state of PB0. The fields from `pin` to `errcode` are the tuple of R20, STATUS as its three flag bits. -/
structure State where
  /-- The parameter NBLK, constant for a run (R6; log entry 8). -/
  cfg : Config
  /-- Buffer PIN (R22). -/
  pin : CharBuf
  /-- Buffer PAN (R23). -/
  pan : PanBuf
  /-- Buffer KEY (R24). -/
  key : CharBuf
  /-- Buffer A (R25). -/
  a : CharBuf
  /-- Buffer B (R26). -/
  b : CharBuf
  /-- The result queue OUT.q, front first (R27). -/
  out : Str
  /-- The latched command byte CMDREG (R34). -/
  cmdreg : Byte
  /-- STATUS bit 0, BUSY (R31). -/
  busy : Bool
  /-- STATUS bit 1, DONE (R31). -/
  done : Bool
  /-- STATUS bit 2, ERR (R31). -/
  err : Bool
  /-- ERRCODE bits 3:0 (R32). -/
  errcode : BitVec 4
  /-- The model's own: a Reset step has occurred, so that transactions have a meaning (R233; log entry 7). -/
  ready : Bool
  /-- The model's own: the byte the latest host read returned (R50 rdata; log entry 6). -/
  rdata : Byte
  /-- The model's own: the steps to come, in the total order of R59; which agent moves when is free (log entry 1). -/
  inbox : List Event
  deriving DecidableEq, Repr

/-- Reasons the machine stops with a fault: none. Nothing in PB0 is a fault or a stuck state after reset (60_exceptions
R225, 93 U3 to U14), so nothing raises one. -/
inductive Fault where
  deriving DecidableEq, Repr

/-- Reasons a step has no meaning. -/
inductive Refusal where
  /-- Raised by `exec` alone, for an instruction with no meaning yet; no arm raises it in this model. Safe: the model
  stops where the hardware goes on. -/
  | notModelled (mnemonic : String)
  /-- Raised by a step before the first Reset step, when every element of state is unspecified and a model gives no
  meaning to transactions (70_reset_and_hazards R233, 93 U3). Safe: nothing can be proved of such a step. -/
  | beforeReset
  deriving DecidableEq, Repr

/-- The machine right after reset (R39): every buffer empty, CMDREG, STATUS and ERRCODE 0, phase IDLE. NBLK has its
default; `rdata` and `inbox` are the model's own and their values here are design choices (log entries 6 and 1). -/
def State.reset : State where
  cfg := Config.default
  pin := ⟨0, []⟩
  pan := ⟨0, []⟩
  key := ⟨0, []⟩
  a := ⟨0, []⟩
  b := ⟨0, []⟩
  out := []
  cmdreg := 0x00#8
  busy := false
  done := false
  err := false
  errcode := 0x0#4
  ready := true
  rdata := 0x00#8
  inbox := []

end Sys2Proof.Machine
end

