-- ==== Sys2Proof/Machine/Params.lean ====
section
/-! DEFINITION. The constants of PB0 (00_scope R6) and the capacities that follow from them. -/

namespace Sys2Proof.Machine

/-- Least PIN length ENCODE accepts. -/
@[simp] abbrev pinMin : Nat := 4
/-- Greatest PIN length ENCODE accepts, and the capacity of buffer PIN (R22). -/
@[simp] abbrev pinMax : Nat := 6
/-- Least PAN length. -/
@[simp] abbrev panMin : Nat := 13
/-- Number of rightmost PAN characters that participate. -/
@[simp] abbrev panDigits : Nat := 12
/-- Hex digits in a PIN Field, PAN Field, PIN Block or cipher block. -/
@[simp] abbrev fieldHex : Nat := 16
/-- The fill nibble of the PIN Field. -/
@[simp] abbrev fill : Nibble := 0xF#4
/-- Least length digit DECODE accepts. -/
@[simp] abbrev decLMin : Nat := 1
/-- Greatest length digit DECODE accepts. -/
@[simp] abbrev decLMax : Nat := 6
/-- Hex characters of a key, and the capacity of buffer KEY (R24). -/
@[simp] abbrev keyHex : Nat := 48
/-- Bytes of one cipher block. -/
@[simp] abbrev desBlockBytes : Nat := 8

/-- DATA_CAP = 16 × NBLK, the capacity of A, B and OUT in characters. -/
def dataCap (c : Config) : Nat := fieldHex * c.nblk

end Sys2Proof.Machine
end

