-- ==== Sys2Proof/Machine/Flags.lean ====
section
/-! DEFINITION. What the host sees of the state: the STATUS, ERRCODE and OUTLEN bytes (10_state R31 to R33), the phase
(R30), the three output pins (R37), and the codes of the error kinds (60_exceptions R200). PB0 has no arithmetic
condition codes (R31). -/

namespace Sys2Proof.Machine

/-- The value an error kind places in ERRCODE (R200). -/
def ErrorKind.code : ErrorKind → BitVec 4
  | .invalidPinLength => 0x1#4
  | .invalidPanLength => 0x2#4
  | .invalidBlockLength => 0x3#4
  | .invalidLengthDigit => 0x4#4
  | .pinOutOfRange => 0x5#4
  | .invalidKeyLength => 0x6#4
  | .invalidEncoding => 0x7#4
  | .lengthMismatch => 0x8#4
  | .cipherFailure => 0x9#4
  | .illegalCommand => 0xF#4

/-- What a completion places in OUT (R115): the output characters, nothing on an error. -/
def Result.out : Result → Str
  | .ok s => s
  | .err _ => []

/-- What a completion places in STATUS.ERR (R115). -/
def Result.isErr : Result → Bool
  | .ok _ => false
  | .err _ => true

/-- What a completion places in ERRCODE (R115). -/
def Result.code : Result → BitVec 4
  | .ok _ => 0x0#4
  | .err e => e.code

/-- The STATUS byte {00000, ERR, DONE, BUSY}; bits 7:3 are hard-wired 0 (R31). -/
def State.statusByte (s : State) : Byte :=
  0#5 ++ BitVec.ofBool s.err ++ BitVec.ofBool s.done ++ BitVec.ofBool s.busy

/-- The ERRCODE byte {0000, code} (R32). -/
def State.errcodeByte (s : State) : Byte := s.errcode.setWidth 8

/-- The OUTLEN byte, the number of characters in OUT.q (R33); at most 240 in a state a run reaches. -/
def State.outlenByte (s : State) : Byte := BitVec.ofNat 8 s.out.length

/-- The three phases (R30). -/
inductive Phase where
  | idle
  | busy
  | done
  deriving DecidableEq, Repr

/-- The phase, a function of BUSY and DONE; none for BUSY with DONE, which no run after reset reaches (R30). -/
def State.phase (s : State) : Option Phase :=
  match s.busy, s.done with
  | false, false => some .idle
  | true, false => some .busy
  | false, true => some .done
  | true, true => none

/-- The three level outputs (R37). -/
structure Pins where
  busy : Bool
  done : Bool
  err : Bool
  deriving DecidableEq, Repr

/-- The pins mirror STATUS at all times (R37). -/
def State.pins (s : State) : Pins := ⟨s.busy, s.done, s.err⟩

/-- A state is quiescent when BUSY = 0 (40_command_execution R119). -/
def State.quiescent (s : State) : Bool := !s.busy

end Sys2Proof.Machine
end

