-- ==== Sys2Proof/Machine/Operands.lean ====
section
/-! DEFINITION. The operand forms of PB0: characters, the hex-string-to-byte and byte-to-hex converters (30_encoding
R77 to R83) and the XOR datapath (44_xorhex R170). -/

namespace Sys2Proof.Machine

/-- `HexVal(c)` (R78): the nibble of a hex character of either case, none for any other character. -/
def hexVal (c : Byte) : Option Nibble :=
  let n := c.toNat
  if 0x30 ≤ n ∧ n ≤ 0x39 then some (BitVec.ofNat 4 (n - 0x30))
  else if 0x41 ≤ n ∧ n ≤ 0x46 then some (BitVec.ofNat 4 (n - 0x41 + 10))
  else if 0x61 ≤ n ∧ n ≤ 0x66 then some (BitVec.ofNat 4 (n - 0x61 + 10))
  else none

/-- `IsHex(s)` (R78): every character is a hex character. -/
def isHex (s : Str) : Bool := s.all fun c => (hexVal c).isSome

/-- `HexChar(n)` (R79): a digit or an upper-case letter. -/
def hexChar (n : Nibble) : Byte :=
  if n.toNat < 10 then BitVec.ofNat 8 (0x30 + n.toNat) else BitVec.ofNat 8 (0x41 + (n.toNat - 10))

/-- `Nibbles(s)` (R80): one nibble per character, none when some character is not a hex character. -/
def nibbles : Str → Option (List Nibble)
  | [] => some []
  | c :: s =>
    match hexVal c, nibbles s with
    | some n, some ns => some (n :: ns)
    | _, _ => none

/-- `HexStr(ns)` (R80). -/
def hexStr (ns : List Nibble) : Str := ns.map hexChar

/-- `HexDecode(s)` (R81): byte k is 16 × the value of character 2k plus that of character 2k + 1; none when the
string is malformed, by an odd length or by a character that is not hex. -/
def hexDecode : Str → Option (List Byte)
  | [] => some []
  | [_] => none
  | hi :: lo :: s =>
    match hexVal hi, hexVal lo, hexDecode s with
    | some h, some l, some bs => some (BitVec.ofNat 8 (16 * h.toNat + l.toNat) :: bs)
    | _, _, _ => none

/-- `HexEncode(bs)` (R82): the high nibble's character, then the low nibble's. -/
def hexEncode : List Byte → Str
  | [] => []
  | b :: bs => hexChar (b.extractLsb' 4 4) :: hexChar (b.extractLsb' 0 4) :: hexEncode bs

/-- `Dec2(n)` (R83): a number below 100 as two decimal digits. -/
def dec2 (n : Nat) : Str := [BitVec.ofNat 8 (0x30 + n / 10), BitVec.ofNat 8 (0x30 + n % 10)]

/-- Hex letters made upper case (R79, R82); other characters as they are. -/
def upperChar (c : Byte) : Byte := if 0x61 ≤ c.toNat ∧ c.toNat ≤ 0x66 then c - 0x20 else c

/-- `upper(s)` (41_codec R120, 42_cipher R145). -/
def upper (s : Str) : Str := s.map upperChar

/-- `Xor(x, y)` (R170), nibble by nibble, with no carry between positions. -/
def xorNibbles (x y : List Nibble) : List Nibble := List.zipWith (· ^^^ ·) x y

/-- The last 12 characters of a string (R23, R120). -/
def lastPanDigits (s : Str) : Str := s.drop (s.length - panDigits)

end Sys2Proof.Machine
end

