-- ==== Sys2Proof/Machine/Ops.lean ====
section
/-! DEFINITION. The named operations over the state: pushes (10_state R28, R29), pops and answers of the port
(40_command_execution R107 to R110), the guard of phase BUSY (20_memory R57), Start, Clear, Complete and Reset (R113 to
R115, 70_reset_and_hazards R231), and the completion with an error that takes the place of trap entry (60_exceptions
R213). -/

namespace Sys2Proof.Machine

/-- The empty capped buffer: counter 0, every character 0x00 (R28). -/
def CharBuf.empty : CharBuf := ⟨0, []⟩

/-- The empty PAN buffer: counter 0, window "" (R29). -/
def PanBuf.empty : PanBuf := ⟨0, []⟩

/-- Push to a capped buffer of capacity `cap` (R28): stored below the capacity, remembered in the counter at the
capacity, without effect above it. -/
def CharBuf.push (cap : Nat) (c : Byte) (x : CharBuf) : CharBuf :=
  if x.len < cap then ⟨x.len + 1, x.ch ++ [c]⟩
  else if x.len = cap then ⟨cap + 1, x.ch⟩
  else x

/-- Push to PAN (R29): the window keeps the last 12 characters, the counter saturates at 13. -/
def PanBuf.push (c : Byte) (x : PanBuf) : PanBuf :=
  ⟨if x.len < panMin then x.len + 1 else x.len,
   if x.win.length < panDigits then x.win ++ [c] else x.win.drop 1 ++ [c]⟩

/-- Pushes into PIN, PAN, KEY, A and B with each buffer's capacity (R102 to R106). -/
def State.pushPin (c : Byte) (s : State) : State := { s with pin := s.pin.push pinMax c }
def State.pushPan (c : Byte) (s : State) : State := { s with pan := s.pan.push c }
def State.pushKey (c : Byte) (s : State) : State := { s with key := s.key.push keyHex c }
def State.pushA (c : Byte) (s : State) : State := { s with a := s.a.push (dataCap s.cfg) c }
def State.pushB (c : Byte) (s : State) : State := { s with b := s.b.push (dataCap s.cfg) c }

/-- Empties the five operand buffers (R40). -/
def State.emptyOperands (s : State) : State :=
  { s with pin := .empty, pan := .empty, key := .empty, a := .empty, b := .empty }

/-- A host read returns a byte and changes nothing else (R107 to R109, R56). -/
def State.answer (v : Byte) (s : State) : State := { s with rdata := v }

/-- Removes the front character of OUT.q and returns it, 0x00 when there is none (R110). -/
def State.popOut (s : State) : State := { s with rdata := s.out.headD 0x00#8, out := s.out.tail }

/-- The steps to come, replaced (R59). -/
def State.setInbox (l : List Event) (s : State) : State := { s with inbox := l }

/-- A host write takes effect only outside phase BUSY (R57, R101). -/
def State.hostWrite (f : State → State) (s : State) : State := if s.busy then s else f s

/-- `Start(v)` (R114): the command byte is latched, the old outcome discarded, BUSY set; operands untouched. -/
def State.start (v : Byte) (s : State) : State :=
  { s with cmdreg := v, out := [], errcode := 0x0#4, err := false, done := false, busy := true }

/-- `Clear()` (R113): operands, OUT, CMDREG, ERRCODE and STATUS as after reset. -/
def State.clear (s : State) : State :=
  { s.emptyOperands with out := [], cmdreg := 0x00#8, errcode := 0x0#4, busy := false, done := false, err := false }

/-- `CmdWrite(v)` outside phase BUSY (R111): NOP, CLEAR, or the start of a command, legal or not. -/
def State.cmdWrite (v : Byte) (s : State) : State :=
  if v = 0x00#8 then s
  else if v = 0x0F#8 then s.clear
  else s.start v

/-- `Complete` with a command's result (R115): OUT, ERR and ERRCODE from the result, operands emptied, CMDREG 0,
phase DONE. -/
def State.complete (r : Result) (s : State) : State :=
  { s.emptyOperands with
    out := r.out, err := r.isErr, errcode := r.code, cmdreg := 0x00#8, busy := false, done := true }

/-- Trap entry in PB0: the completion step with an error result (R213). Nothing is saved and control goes nowhere;
the error state is left by `start`, `clear` or `applyReset` (R214), there being no return. -/
def State.raise (e : ErrorKind) (s : State) : State := s.complete (.err e)

/-- The core's completion step for a command with result `r`, enabled iff BUSY = 1; otherwise the core has no
enabled step and waits (R115, R223). -/
def State.coreComplete (r : Result) (s : State) : State := if s.busy then s.complete r else s

/-- The `Reset` step (R231): every element of state takes its value of R39, in every phase. The parameter, the byte
last returned to the host and the steps to come are no elements of PB0's state and stay (log entry 13). -/
def State.applyReset (s : State) : State :=
  { State.reset with cfg := s.cfg, rdata := s.rdata, inbox := s.inbox }

end Sys2Proof.Machine
end

