-- ==== Sys2Proof/Machine/Cipher.lean ====
section
/-! DEFINITION. Triple-DES ECB, commands ENCRYPT and DECRYPT (42_cipher R140 to R144). CipherFailure is never raised
(R147), and no key is screened (R146). -/

namespace Sys2Proof.Machine

/-- Eight bytes as a DES block, byte 0 most significant (R53, R150). -/
def blockOfBytes (bs : List Byte) : Block := BitVec.ofNat 64 (bs.foldl (fun n b => 256 * n + b.toNat) 0)

/-- The eight bytes of a DES block, byte 0 most significant (R53, R150). -/
def bytesOfBlock (x : Block) : List Byte :=
  [x.extractLsb' 56 8, x.extractLsb' 48 8, x.extractLsb' 40 8, x.extractLsb' 32 8,
   x.extractLsb' 24 8, x.extractLsb' 16 8, x.extractLsb' 8 8, x.extractLsb' 0 8]

/-- The three DES keys of a Triple-DES key. -/
structure Keys where
  k1 : Block
  k2 : Block
  k3 : Block
  deriving DecidableEq, Repr

/-- The split of the 24 key bytes, K1 first (R140). -/
def splitKey (kb : List Byte) : Keys where
  k1 := blockOfBytes (kb.take 8)
  k2 := blockOfBytes ((kb.drop 8).take 8)
  k3 := blockOfBytes ((kb.drop 16).take 8)

/-- `TdesEnc` (R143): encrypt with K1, decrypt with K2, encrypt with K3. -/
def tdesEnc (k : Keys) (x : Block) : Block := Des.desEnc k.k3 (Des.desDec k.k2 (Des.desEnc k.k1 x))

/-- `TdesDec` (R143): decrypt with K3, encrypt with K2, decrypt with K1. -/
def tdesDec (k : Keys) (y : Block) : Block := Des.desDec k.k1 (Des.desEnc k.k2 (Des.desDec k.k3 y))

/-- ECB over `n` blocks (R144): each 8-byte block alone, in order, no chaining and no padding. -/
def ecb (f : Block → Block) : Nat → List Byte → List Byte
  | 0, _ => []
  | n + 1, d => bytesOfBlock (f (blockOfBytes (d.take desBlockBytes))) ++ ecb f n (d.drop desBlockBytes)

/-- `EcbEnc` over all blocks of the data (R144). -/
def ecbEnc (k : Keys) (d : List Byte) : List Byte := ecb (tdesEnc k) (d.length / desBlockBytes) d

/-- `EcbDec` over all blocks of the data (R144). -/
def ecbDec (k : Keys) (d : List Byte) : List Byte := ecb (tdesDec k) (d.length / desBlockBytes) d

/-- The checks and conversions that `Encrypt` and `Decrypt` share (R141, R142), `f` the cipher on bytes. -/
def cipherFn (f : Keys → List Byte → List Byte) (cap keyLen : Nat) (key : Str) (dataLen : Nat) (data : Str) : Result :=
  if keyLen ≠ keyHex then .err .invalidKeyLength
  else if dataLen = 0 ∨ dataLen % fieldHex ≠ 0 ∨ dataLen > cap then .err .invalidBlockLength
  else
    match hexDecode key, hexDecode data with
    | some kb, some d => .ok (hexEncode (f (splitKey kb) d))
    | _, _ => .err .invalidEncoding

/-- `Encrypt` (R141); `cap` is DATA_CAP. -/
def encryptFn (cap keyLen : Nat) (key : Str) (dataLen : Nat) (data : Str) : Result :=
  cipherFn ecbEnc cap keyLen key dataLen data

/-- `Decrypt` (R142); `cap` is DATA_CAP. -/
def decryptFn (cap keyLen : Nat) (key : Str) (dataLen : Nat) (data : Str) : Result :=
  cipherFn ecbDec cap keyLen key dataLen data

/-- `Encrypt(key, data)` on complete strings (R141). -/
def encryptStr (cap : Nat) (key data : Str) : Result := encryptFn cap key.length key data.length data

/-- `Decrypt(key, data)` on complete strings (R142). -/
def decryptStr (cap : Nat) (key data : Str) : Result := decryptFn cap key.length key data.length data

/-- ENCRYPT reads KEY and A (R76, R141). -/
def State.encryptResult (s : State) : Result := encryptFn (dataCap s.cfg) s.key.len s.key.ch s.a.len s.a.ch

/-- DECRYPT reads KEY and A (R76, R142). -/
def State.decryptResult (s : State) : Result := decryptFn (dataCap s.cfg) s.key.len s.key.ch s.a.len s.a.ch

/-- ENCRYPT (R141): the core completes the command with `Encrypt(KEY, A)`. -/
def execEncrypt (s : State) : Host.Outcome State Fault Refusal := .next (s.coreComplete s.encryptResult)

/-- DECRYPT (R142): the core completes the command with `Decrypt(KEY, A)`. -/
def execDecrypt (s : State) : Host.Outcome State Fault Refusal := .next (s.coreComplete s.decryptResult)

end Sys2Proof.Machine
end

