-- ==== Sys2Proof/Machine/Codec.lean ====
section
/-! DEFINITION. The PIN-block codec, commands ENCODE and DECODE (41_codec R120 to R123). The functions take each
operand as its length and its characters, so that the buffers' summaries and complete strings are read alike (10_state
R41). -/

namespace Sys2Proof.Machine

/-- `PanField` (R120) from the nibbles of the last 12 PAN characters: four zero nibbles, then the twelve. -/
def panField (last12 : List Nibble) : List Nibble := [0x0#4, 0x0#4, 0x0#4, 0x0#4] ++ last12

/-- `PinField` (R121) from the PIN's nibbles: 0 and the length, the nibbles, and fill to 16. -/
def pinField (pin : List Nibble) : List Nibble :=
  [0x0#4, BitVec.ofNat 4 pin.length] ++ pin ++ List.replicate (fieldHex - 2 - pin.length) fill

/-- `Encode` (R122), checks in its order; `win` holds the last 12 PAN characters. -/
def encodeFn (pinLen : Nat) (pin : Str) (panLen : Nat) (win : Str) : Result :=
  if pinLen < pinMin ∨ pinLen > pinMax then .err .invalidPinLength
  else if panLen < panMin then .err .invalidPanLength
  else
    match nibbles pin, nibbles win with
    | some f, some g => .ok (hexStr (xorNibbles (pinField f) (panField g)))
    | _, _ => .err .invalidEncoding

/-- The PIN read out of a recovered PIN Field (R123): length nibble at offset 1, checked to be a decimal digit and
then to lie in 1 to 6, the PIN from offset 2. -/
def pinOfField (f : List Nibble) : Result :=
  let l := (f.getD 1 0x0#4).toNat
  if l ≥ 10 then .err .invalidLengthDigit
  else if l < decLMin ∨ l > decLMax then .err .pinOutOfRange
  else .ok (hexStr ((f.drop 2).take l))

/-- `Decode` (R123), checks in its order. -/
def decodeFn (blkLen : Nat) (blk : Str) (panLen : Nat) (win : Str) : Result :=
  if blkLen ≠ fieldHex then .err .invalidBlockLength
  else if panLen < panMin then .err .invalidPanLength
  else
    match nibbles blk, nibbles win with
    | some b, some g => pinOfField (xorNibbles b (panField g))
    | _, _ => .err .invalidEncoding

/-- `Encode(pin, pan)` on complete strings (R122). -/
def encodeStr (pin pan : Str) : Result := encodeFn pin.length pin pan.length (lastPanDigits pan)

/-- `Decode(blk, pan)` on complete strings (R123). -/
def decodeStr (blk pan : Str) : Result := decodeFn blk.length blk pan.length (lastPanDigits pan)

/-- ENCODE reads PIN and PAN (R76, R122). -/
def State.encodeResult (s : State) : Result := encodeFn s.pin.len s.pin.ch s.pan.len s.pan.win

/-- DECODE reads A and PAN (R76, R123). -/
def State.decodeResult (s : State) : Result := decodeFn s.a.len s.a.ch s.pan.len s.pan.win

/-- ENCODE (R122): the core completes the command with `Encode(PIN, PAN)`. -/
def execEncode (s : State) : Host.Outcome State Fault Refusal := .next (s.coreComplete s.encodeResult)

/-- DECODE (R123): the core completes the command with `Decode(A, PAN)`. -/
def execDecode (s : State) : Host.Outcome State Fault Refusal := .next (s.coreComplete s.decodeResult)

end Sys2Proof.Machine
end

