-- ==== Sys2Proof/Machine/Control.lean ====
section
/-! DEFINITION. The control commands NOP and CLEAR (40_command_execution R112, R113) and the illegal command bytes
(R117). -/

namespace Sys2Proof.Machine

/-- NOP (R112): no element of state changes, in any phase. -/
def execNop (s : State) : Host.Outcome State Fault Refusal := .next s

/-- CLEAR (R113), performed inside the host write; ignored in phase BUSY like every write (R101). -/
def execClear (s : State) : Host.Outcome State Fault Refusal := .next (s.hostWrite State.clear)

/-- The completion of an illegal command byte (R117): no operand is read, the result is `err(IllegalCommand)`. -/
def State.completeIllegal (s : State) : State := if s.busy then s.raise .illegalCommand else s

/-- Illegal bytes 0x06 and 0x07 (R117). -/
def execIllegal06_07 (_v : Byte) (s : State) : Host.Outcome State Fault Refusal := .next s.completeIllegal
/-- Illegal bytes 0x08 to 0x0B (R117). -/
def execIllegal08_0B (_v : Byte) (s : State) : Host.Outcome State Fault Refusal := .next s.completeIllegal
/-- Illegal bytes 0x0C and 0x0D (R117). -/
def execIllegal0C_0D (_v : Byte) (s : State) : Host.Outcome State Fault Refusal := .next s.completeIllegal
/-- Illegal byte 0x0E (R117). -/
def execIllegal0E (s : State) : Host.Outcome State Fault Refusal := .next s.completeIllegal
/-- Illegal bytes 0x10 to 0x1F (R117). -/
def execIllegal10_1F (_v : Byte) (s : State) : Host.Outcome State Fault Refusal := .next s.completeIllegal
/-- Illegal bytes 0x20 to 0x3F (R117). -/
def execIllegal20_3F (_v : Byte) (s : State) : Host.Outcome State Fault Refusal := .next s.completeIllegal
/-- Illegal bytes 0x40 to 0x7F (R117). -/
def execIllegal40_7F (_v : Byte) (s : State) : Host.Outcome State Fault Refusal := .next s.completeIllegal
/-- Illegal bytes 0x80 to 0xFF (R117), 0x81 with the `op` field of ENCODE among them. -/
def execIllegal80_FF (_v : Byte) (s : State) : Host.Outcome State Fault Refusal := .next s.completeIllegal

end Sys2Proof.Machine
end

