-- ==== Sys2Proof/Machine/Port.lean ====
section
/-! DEFINITION. The port transactions: the command write (40_command_execution R111), the reads (R107 to R109), POP
(R110), the pushes (R102 to R106) and the inert accesses (20_memory R56). -/

namespace Sys2Proof.Machine

/-- CMD (R111): `CmdWrite(v)` outside phase BUSY; a lost write in phase BUSY (R57). -/
def execCmd (v : Byte) (s : State) : Host.Outcome State Fault Refusal := .next (s.hostWrite (State.cmdWrite v))

/-- RD.STATUS (R107). -/
def execRdStatus (s : State) : Host.Outcome State Fault Refusal := .next (s.answer s.statusByte)

/-- RD.ERRCODE (R108). -/
def execRdErrcode (s : State) : Host.Outcome State Fault Refusal := .next (s.answer s.errcodeByte)

/-- RD.OUTLEN (R109). -/
def execRdOutlen (s : State) : Host.Outcome State Fault Refusal := .next (s.answer s.outlenByte)

/-- POP (R110). -/
def execPop (s : State) : Host.Outcome State Fault Refusal := .next s.popOut

/-- PUSH.PIN (R102). -/
def execPushPin (v : Byte) (s : State) : Host.Outcome State Fault Refusal := .next (s.hostWrite (State.pushPin v))

/-- PUSH.PAN (R103). -/
def execPushPan (v : Byte) (s : State) : Host.Outcome State Fault Refusal := .next (s.hostWrite (State.pushPan v))

/-- PUSH.KEY (R104). -/
def execPushKey (v : Byte) (s : State) : Host.Outcome State Fault Refusal := .next (s.hostWrite (State.pushKey v))

/-- PUSH.A (R105). -/
def execPushA (v : Byte) (s : State) : Host.Outcome State Fault Refusal := .next (s.hostWrite (State.pushA v))

/-- PUSH.B (R106). -/
def execPushB (v : Byte) (s : State) : Host.Outcome State Fault Refusal := .next (s.hostWrite (State.pushB v))

/-- A read of the write-only location 0x0 returns 0x00 (R56). -/
def execInertR0 (s : State) : Host.Outcome State Fault Refusal := .next (s.answer 0x00#8)

/-- A read of the reserved location 0x5 returns 0x00 (R56). -/
def execInertR5 (s : State) : Host.Outcome State Fault Refusal := .next (s.answer 0x00#8)

/-- A read of the reserved locations 0x6 and 0x7 returns 0x00 (R56). -/
def execInertR6_7 (_addr : BitVec 4) (s : State) : Host.Outcome State Fault Refusal := .next (s.answer 0x00#8)

/-- A read of the push ports 0x8 to 0xC or the reserved locations 0xD to 0xF returns 0x00 (R56). -/
def execInertR8_F (_addr : BitVec 4) (s : State) : Host.Outcome State Fault Refusal := .next (s.answer 0x00#8)

/-- A write to STATUS changes nothing (R31, R56). -/
def execInertW1 (_v : Byte) (s : State) : Host.Outcome State Fault Refusal := .next s

/-- A write to ERRCODE or OUTLEN changes nothing (R32, R33, R56). -/
def execInertW2_3 (_addr : BitVec 4) (_v : Byte) (s : State) : Host.Outcome State Fault Refusal := .next s

/-- A write to OUT or the reserved locations 0x5 to 0x7 changes nothing (R56). -/
def execInertW4_7 (_addr : BitVec 4) (_v : Byte) (s : State) : Host.Outcome State Fault Refusal := .next s

/-- A write to the reserved location 0xD changes nothing (R56). -/
def execInertWD (_v : Byte) (s : State) : Host.Outcome State Fault Refusal := .next s

/-- A write to the reserved locations 0xE and 0xF changes nothing (R56). -/
def execInertWE_F (_addr : BitVec 4) (_v : Byte) (s : State) : Host.Outcome State Fault Refusal := .next s

end Sys2Proof.Machine
end

