-- ==== Sys2Proof/Machine/Xor.lean ====
section
/-! DEFINITION. The command XORHEX over the XOR datapath (44_xorhex R170, R171). -/

namespace Sys2Proof.Machine

/-- `XorHex` (R171), checks in its order: capacity, equal lengths, whole bytes, hex characters. -/
def xorHexFn (cap aLen : Nat) (a : Str) (bLen : Nat) (b : Str) : Result :=
  if aLen > cap ∨ bLen > cap then .err .invalidBlockLength
  else if aLen ≠ bLen then .err .lengthMismatch
  else if aLen % 2 ≠ 0 then .err .invalidEncoding
  else
    match nibbles a, nibbles b with
    | some x, some y => .ok (hexStr (xorNibbles x y))
    | _, _ => .err .invalidEncoding

/-- `XorHex(a, b)` on complete strings (R171). -/
def xorHexStr (cap : Nat) (a b : Str) : Result := xorHexFn cap a.length a b.length b

/-- XORHEX reads A and B (R76, R171). -/
def State.xorHexResult (s : State) : Result := xorHexFn (dataCap s.cfg) s.a.len s.a.ch s.b.len s.b.ch

/-- XORHEX (R171): the core completes the command with `XorHex(A, B)`. -/
def execXorhex (s : State) : Host.Outcome State Fault Refusal := .next (s.coreComplete s.xorHexResult)

end Sys2Proof.Machine
end

