-- ==== Sys2Proof/Machine/Dispatch.lean ====
section
/-! DEFINITION. One arm per constructor of Instr, each a direct call of its meaning. -/

namespace Sys2Proof.Machine

def exec (i : Instr) (s : State) : Host.Outcome State Fault Refusal :=
  match i with
  | .nop => Sys2Proof.Machine.execNop s
  | .encode => Sys2Proof.Machine.execEncode s
  | .decode => Sys2Proof.Machine.execDecode s
  | .encrypt => Sys2Proof.Machine.execEncrypt s
  | .decrypt => Sys2Proof.Machine.execDecrypt s
  | .xorhex => Sys2Proof.Machine.execXorhex s
  | .clear => Sys2Proof.Machine.execClear s
  | .illegal06_07 v => Sys2Proof.Machine.execIllegal06_07 v s
  | .illegal08_0B v => Sys2Proof.Machine.execIllegal08_0B v s
  | .illegal0C_0D v => Sys2Proof.Machine.execIllegal0C_0D v s
  | .illegal0E => Sys2Proof.Machine.execIllegal0E s
  | .illegal10_1F v => Sys2Proof.Machine.execIllegal10_1F v s
  | .illegal20_3F v => Sys2Proof.Machine.execIllegal20_3F v s
  | .illegal40_7F v => Sys2Proof.Machine.execIllegal40_7F v s
  | .illegal80_FF v => Sys2Proof.Machine.execIllegal80_FF v s
  | .cmd v => Sys2Proof.Machine.execCmd v s
  | .rdStatus => Sys2Proof.Machine.execRdStatus s
  | .rdErrcode => Sys2Proof.Machine.execRdErrcode s
  | .rdOutlen => Sys2Proof.Machine.execRdOutlen s
  | .pop => Sys2Proof.Machine.execPop s
  | .pushPin v => Sys2Proof.Machine.execPushPin v s
  | .pushPan v => Sys2Proof.Machine.execPushPan v s
  | .pushKey v => Sys2Proof.Machine.execPushKey v s
  | .pushA v => Sys2Proof.Machine.execPushA v s
  | .pushB v => Sys2Proof.Machine.execPushB v s
  | .inertR0 => Sys2Proof.Machine.execInertR0 s
  | .inertR5 => Sys2Proof.Machine.execInertR5 s
  | .inertR6_7 addr => Sys2Proof.Machine.execInertR6_7 addr s
  | .inertR8_F addr => Sys2Proof.Machine.execInertR8_F addr s
  | .inertW1 v => Sys2Proof.Machine.execInertW1 v s
  | .inertW2_3 addr v => Sys2Proof.Machine.execInertW2_3 addr v s
  | .inertW4_7 addr v => Sys2Proof.Machine.execInertW4_7 addr v s
  | .inertWD v => Sys2Proof.Machine.execInertWD v s
  | .inertWE_F addr v => Sys2Proof.Machine.execInertWE_F addr v s

end Sys2Proof.Machine
end

