-- ==== Sys2Proof/Machine/Agents.lean ====
section
/-! DEFINITION. The three kinds of step (40_command_execution R100): a host transaction, the core's turn, and a reset.
The host's instruction is fetched from its transaction, the core's from CMDREG. -/

namespace Sys2Proof.Machine

/-- A host step: one port transaction (R101, R107 to R110). -/
def hostTurn (t : Transaction) (s : State) : Host.Outcome State Fault Refusal := exec (decodePort t) s

/-- The core's turn (R115, R116): when BUSY = 1 it completes the latched command, and otherwise it has no enabled step
and waits. A latched 0x00 or 0x0F, which no run after reset reaches, is one of R116's "every other v" (log entry 5). -/
def coreTurn (s : State) : Host.Outcome State Fault Refusal :=
  if s.busy then
    if s.cmdreg = 0x00#8 ∨ s.cmdreg = 0x0F#8 then .next (s.raise .illegalCommand) else exec (decodeCmd s.cmdreg) s
  else .next s

/-- The platform's `Reset` step, accepted in every phase and before the first reset too (R231, R233). -/
def resetTurn (s : State) : Host.Outcome State Fault Refusal := .next s.applyReset

/-- Before the first reset only a reset has a meaning (R233). -/
def whenReady (s : State) (f : State → Host.Outcome State Fault Refusal) : Host.Outcome State Fault Refusal :=
  if s.ready then f s else .refused .beforeReset

/-- The step an event stands for. -/
def takeEvent (e : Event) (s : State) : Host.Outcome State Fault Refusal :=
  match e with
  | .port t => whenReady s (hostTurn t)
  | .core => whenReady s coreTurn
  | .reset => resetTurn s

/-- With no host step or reset to come, a started command completes, which is the fairness of R100, and otherwise the
core waits (R223). -/
def quietTurn (s : State) : Host.Outcome State Fault Refusal := whenReady s coreTurn

/-- The instruction of an opcode-table word made the next to run (log entry 11). A PORT word,
and a NOP or CLEAR byte, becomes the next transaction of the host; any other command byte has been started (R114) and
the core's turn is next. A word that is no instruction changes nothing. -/
def State.placeWord (s : State) (nbits w : Nat) : State :=
  match tableWordBytes nbits w with
  | some [v] =>
    if v = 0x00#8 ∨ v = 0x0F#8 then { s with ready := true, inbox := .port (.write 0x0#4 v) :: s.inbox }
    else { s.start v with ready := true, inbox := .core :: s.inbox }
  | some [lo, hi] =>
    match transactionOfBytes lo hi with
    | .ok t => { s with ready := true, inbox := .port t :: s.inbox }
    | .error _ => s
  | _ => s

end Sys2Proof.Machine
end

