-- ==== Sys2Proof/Machine/Step.lean ====
section
/-! DEFINITION. One step of PB0: the first of the steps to come, in the total order of 20_memory R59. -/

namespace Sys2Proof.Machine

/-- One step (R59, R100): the head of `inbox` is taken, and with an empty inbox the core has its turn. -/
def step (s : State) : Host.Outcome State Fault Refusal :=
  match s.inbox with
  | [] => quietTurn s
  | e :: rest => takeEvent e (s.setInbox rest)

/-- The state in which the very next step runs the instruction of an opcode-table word (log entry 11). -/
def State.withFetchWord (s : State) (nbits w : Nat) : State := s.placeWord nbits w

end Sys2Proof.Machine
end

