-- ==== Sys2Proof/Machine/Script.lean ====
section
/-! DEFINITION. The host-script notation of 30_encoding R85 and R86 as lists of steps to come. The host's own control
flow, the WAIT loop and the branch of GETRESULT, is no part of PB0; a script here has the core's turn right after the
command, which is one legal place for it (40_command_execution R100). -/

namespace Sys2Proof.Machine

/-- `k` steps, one after the other, while each has a next state (R59). -/
def runSteps : Nat → State → Host.Outcome State Fault Refusal
  | 0, s => .next s
  | k + 1, s =>
    match step s with
    | .next t => runSteps k t
    | .fault r => .fault r
    | .refused r => .refused r

/-- `PUSH buf, "s"` (R86): one write to the buffer's port per character, in order. -/
def pushEvents (addr : BitVec 4) (s : Str) : List Event := s.map fun c => .port (.write addr c)

/-- `POPALL` (R86) for a queue of `n` characters: `R 3`, then `n` times `R 4`. -/
def popallEvents (n : Nat) : List Event := .port (.read 0x3#4) :: List.replicate n (.port (.read 0x4#4))

/-- The five calls of R86 with their operand strings. -/
inductive Call where
  | encode (pin pan : Str)
  | decode (blk pan : Str)
  | encrypt (key data : Str)
  | decrypt (key data : Str)
  | xorhex (a b : Str)
  deriving DecidableEq, Repr

/-- The pushes and the command write of a call (R86), in its order. -/
def Call.hostEvents : Call → List Event
  | .encode pin pan => pushEvents 0x8#4 pin ++ pushEvents 0x9#4 pan ++ [.port (.write 0x0#4 0x01#8)]
  | .decode blk pan => pushEvents 0xB#4 blk ++ pushEvents 0x9#4 pan ++ [.port (.write 0x0#4 0x02#8)]
  | .encrypt key data => pushEvents 0xA#4 key ++ pushEvents 0xB#4 data ++ [.port (.write 0x0#4 0x03#8)]
  | .decrypt key data => pushEvents 0xA#4 key ++ pushEvents 0xB#4 data ++ [.port (.write 0x0#4 0x04#8)]
  | .xorhex a b => pushEvents 0xB#4 a ++ pushEvents 0xC#4 b ++ [.port (.write 0x0#4 0x05#8)]

/-- A call up to its completion: the host's transactions, then the core's step. -/
def Call.events (c : Call) : List Event := c.hostEvents ++ [.core]

/-- The pure function of a call on its complete strings, with capacity DATA_CAP where it has one (R9, R86). -/
def Call.result (cap : Nat) : Call → Result
  | .encode pin pan => encodeStr pin pan
  | .decode blk pan => decodeStr blk pan
  | .encrypt key data => encryptStr cap key data
  | .decrypt key data => decryptStr cap key data
  | .xorhex a b => xorHexStr cap a b

end Sys2Proof.Machine
end

