-- ==== Sys2Proof/Safety.lean ====
section
/-! DEFINITION. What counts as a safe run of PB0: the invariant every step after reset keeps, and the relations
statements use between states. -/

namespace Sys2Proof.Machine

/-- A capped buffer as its pushes leave it (R22, R28): the counter at most one above the capacity, and as many
characters stored as the counter says, up to the capacity. -/
def CharBuf.wf (cap : Nat) (x : CharBuf) : Prop := x.len ≤ cap + 1 ∧ x.ch.length = min x.len cap

/-- The PAN buffer as its pushes leave it (R29): `len(PAN.win) = min(PAN.len, 12)`. -/
def PanBuf.wf (x : PanBuf) : Prop := x.len ≤ panMin ∧ x.win.length = min x.len panDigits

/-- A character of a result: '0' to '9' or 'A' to 'F' (R79, R110). -/
abbrev isResultChar (c : Byte) : Prop := (0x30 ≤ c.toNat ∧ c.toNat ≤ 0x39) ∨ (0x41 ≤ c.toNat ∧ c.toNat ≤ 0x46)

/-- The legal values of ERRCODE (R32), 0x9 left out because CipherFailure is never raised (R147). -/
abbrev legalErrcode (v : BitVec 4) : Prop := v.toNat ≤ 8 ∨ v.toNat = 15

/-- The five operand buffers are empty (R40). -/
abbrev State.operandsEmpty (s : State) : Prop :=
  s.pin = .empty ∧ s.pan = .empty ∧ s.key = .empty ∧ s.a = .empty ∧ s.b = .empty

/-- Two states that agree on all but the operand buffers (R21, R36). -/
abbrev State.sameButOperands (s t : State) : Prop := s.emptyOperands = t.emptyOperands

/-- The byte `HostRead(addr)` returns in a state, as the address map gives it (20_memory R51, R55, R56): STATUS,
ERRCODE, OUTLEN, the front of OUT or 0x00 when it is empty, and 0x00 at every write-only or reserved location. -/
def State.portView (s : State) (addr : BitVec 4) : Byte :=
  if addr = 0x1#4 then s.statusByte
  else if addr = 0x2#4 then s.errcodeByte
  else if addr = 0x3#4 then s.outlenByte
  else if addr = 0x4#4 then s.out.headD 0x00#8
  else 0x00#8

/-- The invariant of every state after reset. -/
structure State.Inv (s : State) : Prop where
  /-- A reset has occurred (R233). -/
  ready : s.ready = true
  /-- PIN (R22). -/
  pin : s.pin.wf pinMax
  /-- PAN (R23). -/
  pan : s.pan.wf
  /-- KEY (R24). -/
  key : s.key.wf keyHex
  /-- A (R25). -/
  a : s.a.wf (dataCap s.cfg)
  /-- B (R26). -/
  b : s.b.wf (dataCap s.cfg)
  /-- OUT holds at most DATA_CAP characters (R27). -/
  outCap : s.out.length ≤ dataCap s.cfg
  /-- OUT holds result characters only (R27, R110). -/
  outChars : ∀ c ∈ s.out, isResultChar c
  /-- BUSY with DONE is unreachable (R30). -/
  phase : ¬(s.busy = true ∧ s.done = true)
  /-- ERR = 1 implies DONE = 1 (R31). -/
  errDone : s.err = true → s.done = true
  /-- ERRCODE = 0 exactly when ERR = 0 (R32, R115). -/
  errcodeErr : s.errcode = 0x0#4 ↔ s.err = false
  /-- ERRCODE has a legal value (R32). -/
  errcodeLegal : legalErrcode s.errcode
  /-- A result stands in OUT only after a successful completion (R114, R115, R113). -/
  outDone : s.out ≠ [] → s.done = true ∧ s.err = false
  /-- CMDREG is 0x00 in phases IDLE and DONE (R34). -/
  cmdregIdle : s.busy = false → s.cmdreg = 0x00#8
  /-- CMDREG is never 0x00 or 0x0F when BUSY = 1 (R116). -/
  cmdregBusy : s.busy = true → s.cmdreg ≠ 0x00#8 ∧ s.cmdreg ≠ 0x0F#8

end Sys2Proof.Machine
end

