-- ==== Sys2Proof/Certificates/Slice0/Obligations.lean ====
section
/-! DEFINITION. The statements for the provers, each from the numbered rules of spec/. Every docstring names the rule.
The notions the statements share stand first, written from the spec and not from the meanings. -/

namespace Sys2Proof.Statements
open Sys2Proof.Machine

/-- What a completion leaves (R115): the outcome given, operands and CMDREG emptied, phase DONE, all else as before. -/
def completed (s : State) (out : Str) (err : Bool) (code : BitVec 4) : State :=
  { s with
    pin := ⟨0, []⟩, pan := ⟨0, []⟩, key := ⟨0, []⟩, a := ⟨0, []⟩, b := ⟨0, []⟩,
    out := out, cmdreg := 0x00#8, busy := false, done := true, err := err, errcode := code }

/-- The instruction completes with `ok(out)`. -/
def completesWith (i : Instr) (s : State) (out : Str) : Prop := exec i s = .next (completed s out false 0x0#4)

/-- The instruction completes with the error of a given code. -/
def failsWith (i : Instr) (s : State) (code : BitVec 4) : Prop := exec i s = .next (completed s [] true code)

/-- The nibble of the character at an offset. -/
def nib (s : Str) (i : Nat) : Nibble := (hexVal (s.getD i 0x00#8)).getD 0x0#4

/-- `PinField(pin)[i]` (R121). -/
def pinFieldNib (pin : Str) (i : Nat) : Nibble :=
  if i = 0 then 0x0#4
  else if i = 1 then BitVec.ofNat 4 pin.length
  else if i < 2 + pin.length then nib pin (i - 2)
  else 0xF#4

/-- `PanField(pan)[i]` (R120), `win` the last 12 characters of the PAN. -/
def panFieldNib (win : Str) (i : Nat) : Nibble := if i < 4 then 0x0#4 else nib win (i - 4)

/-- The 64-bit block written by the first 16 characters of a hex string, leftmost digit most significant (R150). -/
def hexBlock (s : Str) : Block :=
  BitVec.ofNat 64 ((s.take 16).foldl (fun n c => 16 * n + ((hexVal c).getD 0x0#4).toNat) 0)

/-- The outcome of ENCRYPT or DECRYPT by the checks of R141 and R142 in their order, `f` the cipher on one block under
K1, K2 and K3, written block by block on the hex characters. -/
def cipherOutcome (i : Instr) (f : Block → Block → Block → Block → Block) (s : State) : Prop :=
  if s.key.len ≠ 48 then failsWith i s 0x6#4
  else if s.a.len = 0 ∨ s.a.len % 16 ≠ 0 ∨ dataCap s.cfg < s.a.len then failsWith i s 0x3#4
  else if isHex s.key.ch = false ∨ isHex s.a.ch = false then failsWith i s 0x7#4
  else ∃ o, completesWith i s o ∧ o.length = s.a.len ∧ (∀ c ∈ o, isResultChar c) ∧
    ∀ j, j < s.a.len / 16 →
      hexBlock (o.drop (16 * j)) =
        f (hexBlock s.key.ch) (hexBlock (s.key.ch.drop 16)) (hexBlock (s.key.ch.drop 32))
          (hexBlock (s.a.ch.drop (16 * j)))

/-- A command that ends the outcome of the one before: any command write but NOP, or CLEAR (R214). -/
def endsOutcome (i : Instr) : Prop := i = .clear ∨ ∃ v, i = .cmd v ∧ v ≠ 0x00#8

/-- The values of ERRCODE a command can complete with, 0 for no error (R200, column "raised by"). -/
def codesOf (i : Instr) : List (BitVec 4) :=
  if i = .encode then [0x0#4, 0x1#4, 0x2#4, 0x7#4]
  else if i = .decode then [0x0#4, 0x2#4, 0x3#4, 0x4#4, 0x5#4, 0x7#4]
  else if i = .encrypt ∨ i = .decrypt then [0x0#4, 0x3#4, 0x6#4, 0x7#4]
  else if i = .xorhex then [0x0#4, 0x3#4, 0x7#4, 0x8#4]
  else [0xF#4]

/-- A decimal digit character (R77). -/
def isDecimal (c : Byte) : Prop := 0x30 ≤ c.toNat ∧ c.toNat ≤ 0x39

/-- The string of `k` characters that writes a number in upper-case hex, leftmost digit first. -/
def hexText (k v : Nat) : Str := (List.range k).map fun i => hexChar (BitVec.ofNat 4 (v / 16 ^ (k - 1 - i)))

/-- A capped buffer after a string was pushed to it from empty (R28). -/
def pushAll (cap : Nat) (x : Str) : CharBuf := x.foldl (fun b c => b.push cap c) CharBuf.empty

/-- PAN after a string was pushed to it from empty (R29). -/
def pushAllPan (x : Str) : PanBuf := x.foldl (fun b c => b.push c) PanBuf.empty

/-- A word lies in exactly one row of a table of (match, mask) pairs, the row at place `k`. -/
def onlyRow {n : Nat} (rows : List (BitVec n × BitVec n)) (w : BitVec n) (k : Nat) : Bool :=
  (rows.map fun r => w &&& r.2 == r.1) == (List.range rows.length).map (· == k)

/-- The two agree on STATUS, ERRCODE and OUT: the outcomes of two commands are the same. -/
def sameOutcome (s t : State) : Prop :=
  s.out = t.out ∧ s.busy = t.busy ∧ s.done = t.done ∧ s.err = t.err ∧ s.errcode = t.errcode

end Sys2Proof.Statements

open Sys2Proof Sys2Proof.Machine Sys2Proof.Statements

/-! ### Encodings -/

/-- One word of each family, written out from the tables of R72 and R73, decodes to the instruction it stands for. -/
def Obligations.WrittenWordsDecode : Prop :=
  decodeTableWord 8 0b00000000 = some .nop ∧
  decodeTableWord 8 0b00000001 = some .encode ∧
  decodeTableWord 8 0b00000011 = some .encrypt ∧
  decodeTableWord 8 0b00000101 = some .xorhex ∧
  decodeTableWord 8 0b00001111 = some .clear ∧
  decodeTableWord 8 0b10000001 = some (.illegal80_FF 0x81#8) ∧
  decodeTableWord 16 0b1_0000_00000001 = some (.cmd 0x01#8) ∧
  decodeTableWord 16 0b0_0001_00000000 = some .rdStatus ∧
  decodeTableWord 16 0b1_1000_00110001 = some (.pushPin 0x31#8) ∧
  decodeTableWord 16 0b1_0111_11111111 = some (.inertW4_7 0x7#4 0xFF#8)

/-- Decoding the encoding of a well-formed instruction gives it back, with every operand at every value. -/
def Obligations.DecodeOfEncode : Prop := ∀ i : Instr, i.wellFormed = true → decodeBytes (encode i) = .ok i

/-- R75: every command byte and every transaction lies in exactly one row of the opcode table, and decodes to a
well-formed instruction of that row. -/
def Obligations.DecodingTotalAndUnambiguous : Prop :=
  (∀ v : Byte, (decodeCmd v).wellFormed = true ∧ onlyRow cmdRows v (decodeCmd v).rowIndex = true ∧
    encode (decodeCmd v) = [v]) ∧
  (∀ (a : BitVec 4) (v : Byte), (decodePort (.write a v)).wellFormed = true ∧
    onlyRow portRows (1#1 ++ a ++ v) (decodePort (.write a v)).rowIndex = true) ∧
  (∀ (a : BitVec 4) (v : Byte), (decodePort (.read a)).wellFormed = true ∧
    onlyRow portRows (0#1 ++ a ++ v) (decodePort (.read a)).rowIndex = true)

/-! ### Steps -/

/-- A step runs the decoded instruction: after a reset, the next transaction's, or in the core's turn the latched
command's; the step's own part is to take its event off the inbox (R59, R100). With BUSY = 0 the core waits, which is
the model's choice where a schedule gives it a turn (log entry 3). -/
def Obligations.StepRunsDecodedInstruction : Prop :=
  ∀ (s : State) (rest : List Event), s.ready = true →
    (∀ t, s.inbox = .port t :: rest → step s = exec (decodePort t) { s with inbox := rest }) ∧
    (s.inbox = .core :: rest → s.busy = true → s.cmdreg ≠ 0x00#8 → s.cmdreg ≠ 0x0F#8 →
      step s = exec (decodeCmd s.cmdreg) { s with inbox := rest }) ∧
    (s.inbox = [] → s.busy = true → s.cmdreg ≠ 0x00#8 → s.cmdreg ≠ 0x0F#8 → step s = exec (decodeCmd s.cmdreg) s) ∧
    (s.inbox = .core :: rest → s.busy = false → step s = .next { s with inbox := rest }) ∧
    (s.inbox = [] → s.busy = false → step s = .next s)

/-- R231: a Reset step gives every element of state its value of R39, in every phase; where CLEAR takes effect its
effect on the state is the same. -/
def Obligations.ResetStepClearsEverything : Prop :=
  ∀ (s : State) (rest : List Event), s.inbox = .reset :: rest →
    (∃ t, step s = .next t ∧
      t.pin = ⟨0, []⟩ ∧ t.pan = ⟨0, []⟩ ∧ t.key = ⟨0, []⟩ ∧ t.a = ⟨0, []⟩ ∧ t.b = ⟨0, []⟩ ∧ t.out = [] ∧
      t.cmdreg = 0x00#8 ∧ t.busy = false ∧ t.done = false ∧ t.err = false ∧ t.errcode = 0x0#4 ∧
      t.statusByte = 0x00#8 ∧ t.cfg = s.cfg ∧ t.inbox = rest) ∧
    (s.ready = true → s.busy = false → step s = exec .clear { s with inbox := rest })

/-- R232: a reset in phase BUSY leaves phase IDLE with no result, no error and no operands, and the core's turn that
follows does nothing: the completion never occurs (that a schedule may give the core a turn there, and that it is then
idle, is the model's choice, log entry 3). The state it leaves is the one the same reset leaves whatever the
state was before, so the host cannot tell that a command had been started. -/
def Obligations.ResetAbortsCommand : Prop :=
  ∀ (s : State) (rest : List Event), s.busy = true → s.inbox = .reset :: .core :: rest →
    ∃ t, step s = .next t ∧ t.phase = some .idle ∧ t.done = false ∧ t.err = false ∧ t.errcode = 0x0#4 ∧
      t.out = [] ∧ t.operandsEmpty ∧ step t = .next { t with inbox := rest } ∧
      ∀ s' : State, s'.cfg = s.cfg → s'.rdata = s.rdata → s'.inbox = s.inbox → step s' = .next t

/-- R233: a step is refused exactly when no reset has occurred and it is not one, whatever the state holds. The flag
`ready` for R233's premise is the model's (log entry 7). -/
def Obligations.RefusedOnlyBeforeReset : Prop :=
  ∀ s : State, step s = .refused .beforeReset ↔ s.ready = false ∧ s.inbox.head? ≠ some .reset

/-- R225: after a reset every step of every agent has a next state, in every state whatever, and the machine stays
ready. -/
def Obligations.EveryStepAfterResetHasNextState : Prop :=
  ∀ s : State, s.ready = true → ∃ t, step s = .next t ∧ t.ready = true

/-- The state after reset meets the invariant. -/
def Obligations.ResetMeetsInvariant : Prop := State.reset.Inv

/-- Every step keeps the invariant: buffers within their bounds, OUT within its capacity and of result characters only,
the phase legal, ERR, ERRCODE, OUT and CMDREG in agreement with the phase. -/
def Obligations.StepKeepsInvariant : Prop := ∀ s t : State, s.Inv → step s = .next t → t.Inv

/-- A reset reaches the invariant from any state, whatever it holds (R231, R233). -/
def Obligations.ResetReachesInvariant : Prop :=
  ∀ (s : State) (rest : List Event), s.inbox = .reset :: rest → ∃ t, step s = .next t ∧ t.Inv

/-! ### Reads -/

/-- R107: RD.STATUS returns {00000, ERR, DONE, BUSY} and changes nothing else, in every phase; after reset it can
return 0x00, 0x01, 0x02 and 0x06 only, and 0x00 in the reset state. -/
def Obligations.ReadStatusReturnsFlags : Prop :=
  (∀ s : State, ∃ v : Byte, exec .rdStatus s = .next { s with rdata := v } ∧
    v.toNat = 4 * s.err.toNat + 2 * s.done.toNat + s.busy.toNat ∧
    (s.Inv → v = 0x00#8 ∨ v = 0x01#8 ∨ v = 0x02#8 ∨ v = 0x06#8)) ∧
  exec .rdStatus State.reset = .next { State.reset with rdata := 0x00#8 }

/-- R108: RD.ERRCODE returns {0000, ERRCODE} and changes nothing else, in every phase; it returns 0x00 in phases IDLE
and BUSY and after a successful command. -/
def Obligations.ReadErrcodeReturnsCode : Prop :=
  ∀ s : State, ∃ v : Byte, exec .rdErrcode s = .next { s with rdata := v } ∧ v.toNat = s.errcode.toNat ∧
    (s.Inv → s.phase = some .idle ∨ s.phase = some .busy ∨ s.err = false → v = 0x00#8)

/-- R109: RD.OUTLEN returns the number of characters in OUT and changes nothing else; in a state a run reaches the
number is at most 240 and fits the byte. -/
def Obligations.ReadOutlenReturnsLength : Prop :=
  ∀ s : State, ∃ v : Byte, exec .rdOutlen s = .next { s with rdata := v } ∧
    (s.Inv → v.toNat = s.out.length ∧ s.out.length ≤ 240)

/-- R110: POP returns and removes the front character, returns 0x00 and removes nothing when OUT is empty, and leaves
every flag; after reset OUT is empty in phase BUSY and after a failed command, and 0x00 is never a result character. -/
def Obligations.PopRemovesFront : Prop :=
  ∀ s : State,
    (s.out = [] → exec .pop s = .next { s with rdata := 0x00#8 }) ∧
    (∀ c q, s.out = c :: q → exec .pop s = .next { s with rdata := c, out := q }) ∧
    (s.Inv → s.busy = true ∨ s.err = true → s.out = []) ∧
    (s.Inv → 0x00#8 ∉ s.out)

/-- Every host read returns what the address map gives its address and changes nothing but OUT at 0x4 (R51, R55). -/
def Obligations.HostReadFollowsAddressMap : Prop :=
  ∀ (s : State) (addr : BitVec 4), exec (decodePort (.read addr)) s =
    .next { s with rdata := s.portView addr, out := if addr = 0x4#4 then s.out.tail else s.out }

/-- R56: reads of write-only and reserved locations return 0x00 and change nothing, writes of read-only and reserved
locations change nothing; none sets a flag. -/
def Obligations.InertAccessesChangeNothing : Prop :=
  (∀ (s : State) (addr : BitVec 4), addr.toNat = 0 ∨ 5 ≤ addr.toNat →
    exec (decodePort (.read addr)) s = .next { s with rdata := 0x00#8 }) ∧
  (∀ (s : State) (addr : BitVec 4) (v : Byte), (1 ≤ addr.toNat ∧ addr.toNat ≤ 7) ∨ 13 ≤ addr.toNat →
    exec (decodePort (.write addr v)) s = .next s)

/-- Each inert row completes so (R56): the read rows return 0x00, the write rows leave the state as it was. -/
def Obligations.InertRowsComplete : Prop :=
  ∀ (s : State) (addr : BitVec 4) (v : Byte),
    exec .inertR0 s = .next { s with rdata := 0x00#8 } ∧
    exec .inertR5 s = .next { s with rdata := 0x00#8 } ∧
    exec (.inertR6_7 addr) s = .next { s with rdata := 0x00#8 } ∧
    exec (.inertR8_F addr) s = .next { s with rdata := 0x00#8 } ∧
    exec (.inertW1 v) s = .next s ∧
    exec (.inertW2_3 addr v) s = .next s ∧
    exec (.inertW4_7 addr v) s = .next s ∧
    exec (.inertWD v) s = .next s ∧
    exec (.inertWE_F addr v) s = .next s

/-! ### Pushes and control -/

/-- R102, R104, R105 and R106 by R28: a push to PIN, KEY, A or B stores the character and counts it below the capacity,
only counts it at the capacity, does nothing above it, and is lost in phase BUSY. -/
def Obligations.PushToCappedBuffer : Prop :=
  ∀ (s : State) (v : Byte),
    exec (.pushPin v) s = .next (if s.busy = true then s else { s with pin :=
      if s.pin.len < 6 then ⟨s.pin.len + 1, s.pin.ch ++ [v]⟩
      else if s.pin.len = 6 then ⟨7, s.pin.ch⟩ else s.pin }) ∧
    exec (.pushKey v) s = .next (if s.busy = true then s else { s with key :=
      if s.key.len < 48 then ⟨s.key.len + 1, s.key.ch ++ [v]⟩
      else if s.key.len = 48 then ⟨49, s.key.ch⟩ else s.key }) ∧
    exec (.pushA v) s = .next (if s.busy = true then s else { s with a :=
      if s.a.len < 16 * s.cfg.nblk then ⟨s.a.len + 1, s.a.ch ++ [v]⟩
      else if s.a.len = 16 * s.cfg.nblk then ⟨16 * s.cfg.nblk + 1, s.a.ch⟩ else s.a }) ∧
    exec (.pushB v) s = .next (if s.busy = true then s else { s with b :=
      if s.b.len < 16 * s.cfg.nblk then ⟨s.b.len + 1, s.b.ch ++ [v]⟩
      else if s.b.len = 16 * s.cfg.nblk then ⟨16 * s.cfg.nblk + 1, s.b.ch⟩ else s.b })

/-- R103 by R29: a push to PAN appends to a window below 12 characters, drops the oldest of a full one, counts up to 13,
and is lost in phase BUSY. -/
def Obligations.PushToPanWindow : Prop :=
  ∀ (s : State) (v : Byte),
    exec (.pushPan v) s = .next (if s.busy = true then s else { s with pan :=
      ⟨if s.pan.len < 13 then s.pan.len + 1 else s.pan.len,
       if s.pan.win.length < 12 then s.pan.win ++ [v] else s.pan.win.drop 1 ++ [v]⟩ })

/-- R22 to R26 and R23: after a string is pushed from empty, a capped buffer holds its length up to the capacity and
one, and its first characters; PAN holds its length up to 13, and its last 12 characters. -/
def Obligations.PushedStringSummaries : Prop :=
  (∀ (cap : Nat) (x : Str), pushAll cap x = ⟨min x.length (cap + 1), x.take cap⟩) ∧
  (∀ x : Str, pushAllPan x = ⟨min x.length 13, x.drop (x.length - 12)⟩)

/-- R57: in phase BUSY every host write, to any address, changes nothing, and reads return STATUS 0x01 and 0x00 at
every other address, a pop removing nothing. -/
def Obligations.AccessesWhileBusy : Prop :=
  (∀ (s : State) (addr : BitVec 4) (v : Byte), s.busy = true → exec (decodePort (.write addr v)) s = .next s) ∧
  (∀ (s : State) (addr : BitVec 4), s.Inv → s.busy = true →
    exec (decodePort (.read addr)) s = .next { s with rdata := if addr = 0x1#4 then 0x01#8 else 0x00#8 })

/-- R112: NOP changes no element of state, in any phase, as a command and as a command write. -/
def Obligations.NopChangesNothing : Prop :=
  ∀ s : State, exec .nop s = .next s ∧ exec (.cmd 0x00#8) s = .next s

/-- R113: outside phase BUSY CLEAR leaves the reset state of R39; in phase BUSY it is ignored. -/
def Obligations.ClearLeavesResetState : Prop :=
  ∀ s : State,
    (s.busy = false →
      exec .clear s =
        .next { State.reset with cfg := s.cfg, ready := s.ready, rdata := s.rdata, inbox := s.inbox } ∧
      exec (.cmd 0x0F#8) s = exec .clear s) ∧
    (s.busy = true → exec .clear s = .next s ∧ exec (.cmd 0x0F#8) s = .next s)

/-- R114: outside phase BUSY every command byte other than 0x00 and 0x0F, legal or not, is latched, the old outcome is
discarded and BUSY is set; the operand buffers are not changed and nothing is validated. -/
def Obligations.CommandWriteStarts : Prop :=
  ∀ (s : State) (v : Byte), s.busy = false → v ≠ 0x00#8 → v ≠ 0x0F#8 →
    exec (.cmd v) s = .next
      { s with cmdreg := v, out := [], errcode := 0x0#4, err := false, done := false, busy := true }

/-! ### Operations -/

/-- R122: ENCODE, its checks in order and its result nibble by nibble (fields by R120 and R121). -/
def Obligations.EncodeResult : Prop :=
  ∀ s : State, s.busy = true → s.pin.wf 6 → s.pan.wf →
    if s.pin.len < 4 ∨ 6 < s.pin.len then failsWith .encode s 0x1#4
    else if s.pan.len < 13 then failsWith .encode s 0x2#4
    else if isHex s.pin.ch = false ∨ isHex s.pan.win = false then failsWith .encode s 0x7#4
    else ∃ o, completesWith .encode s o ∧ o.length = 16 ∧
      ∀ i, i < 16 → o.getD i 0x00#8 = hexChar (pinFieldNib s.pin.ch i ^^^ panFieldNib s.pan.win i)

/-- R123: DECODE, its checks in order and the PIN nibble by nibble. -/
def Obligations.DecodeResult : Prop :=
  ∀ s : State, s.busy = true → s.a.wf (dataCap s.cfg) → s.pan.wf →
    if s.a.len ≠ 16 then failsWith .decode s 0x3#4
    else if s.pan.len < 13 then failsWith .decode s 0x2#4
    else if isHex s.a.ch = false ∨ isHex s.pan.win = false then failsWith .decode s 0x7#4
    else if 10 ≤ (nib s.a.ch 1 ^^^ panFieldNib s.pan.win 1).toNat then failsWith .decode s 0x4#4
    else if (nib s.a.ch 1 ^^^ panFieldNib s.pan.win 1).toNat < 1 ∨
        6 < (nib s.a.ch 1 ^^^ panFieldNib s.pan.win 1).toNat then failsWith .decode s 0x5#4
    else ∃ o, completesWith .decode s o ∧ o.length = (nib s.a.ch 1 ^^^ panFieldNib s.pan.win 1).toNat ∧
      ∀ i, i < o.length → o.getD i 0x00#8 = hexChar (nib s.a.ch (2 + i) ^^^ panFieldNib s.pan.win (2 + i))

/-- R141: ENCRYPT, its checks in order and every block enciphered with K1, deciphered with K2, enciphered with K3. -/
def Obligations.EncryptResult : Prop :=
  ∀ s : State, s.busy = true → s.key.wf 48 → s.a.wf (dataCap s.cfg) →
    cipherOutcome .encrypt (fun k1 k2 k3 x => Des.desEnc k3 (Des.desDec k2 (Des.desEnc k1 x))) s

/-- R142: DECRYPT, its checks in order and every block deciphered with K3, enciphered with K2, deciphered with K1. -/
def Obligations.DecryptResult : Prop :=
  ∀ s : State, s.busy = true → s.key.wf 48 → s.a.wf (dataCap s.cfg) →
    cipherOutcome .decrypt (fun k1 k2 k3 y => Des.desDec k1 (Des.desEnc k2 (Des.desDec k3 y))) s

/-- R171: XORHEX, its checks in order and its result nibble by nibble. -/
def Obligations.XorhexResult : Prop :=
  ∀ s : State, s.busy = true → s.a.wf (dataCap s.cfg) → s.b.wf (dataCap s.cfg) →
    if dataCap s.cfg < s.a.len ∨ dataCap s.cfg < s.b.len then failsWith .xorhex s 0x3#4
    else if s.a.len ≠ s.b.len then failsWith .xorhex s 0x8#4
    else if s.a.len % 2 ≠ 0 then failsWith .xorhex s 0x7#4
    else if isHex s.a.ch = false ∨ isHex s.b.ch = false then failsWith .xorhex s 0x7#4
    else ∃ o, completesWith .xorhex s o ∧ o.length = s.a.len ∧
      ∀ i, i < s.a.len → o.getD i 0x00#8 = hexChar (nib s.a.ch i ^^^ nib s.b.ch i)

/-- R117: every other command byte starts like a command and completes with IllegalCommand, code 0xF. -/
def Obligations.IllegalCommandFails : Prop :=
  (∀ (s : State) (v : Byte), 5 < v.toNat → v ≠ 0x0F#8 →
    (s.busy = false → exec (.cmd v) s = .next
      { s with cmdreg := v, out := [], errcode := 0x0#4, err := false, done := false, busy := true }) ∧
    (s.busy = true → failsWith (decodeCmd v) s 0xF#4)) ∧
  (∀ (s : State) (v : Byte), s.busy = true →
    failsWith (.illegal06_07 v) s 0xF#4 ∧ failsWith (.illegal08_0B v) s 0xF#4 ∧
    failsWith (.illegal0C_0D v) s 0xF#4 ∧ failsWith .illegal0E s 0xF#4 ∧
    failsWith (.illegal10_1F v) s 0xF#4 ∧ failsWith (.illegal20_3F v) s 0xF#4 ∧
    failsWith (.illegal40_7F v) s 0xF#4 ∧ failsWith (.illegal80_FF v) s 0xF#4)

/-- An operation row outside phase BUSY leaves the state as it was: the core has no enabled step (R115, R223). That
`exec` answers so there is the model's choice (log entry 4). -/
def Obligations.OperationWaitsUnlessBusy : Prop :=
  ∀ (i : Instr) (s : State), i.isOperation = true → s.busy = false → exec i s = .next s

/-! ### Whole-machine rules -/

/-- The frame of every instruction on what is no element of PB0's state: the parameter, readiness and the steps to come
never change, the byte returned changes in a read only. These fields are the model's own (log entries 1, 6, 7 and 8). -/
def Obligations.FrameOutsideTheBlock : Prop :=
  ∀ (i : Instr) (s t : State), exec i s = .next t →
    t.cfg = s.cfg ∧ t.ready = s.ready ∧ t.inbox = s.inbox ∧ (i.isRead = false → t.rdata = s.rdata)

/-- R21: each operand buffer is changed by its own push alone, but for being emptied. -/
def Obligations.OperandsWrittenByOwnPushOnly : Prop :=
  ∀ (i : Instr) (s t : State), exec i s = .next t →
    (t.pin = s.pin ∨ t.pin = .empty ∨ ∃ v, i = .pushPin v) ∧
    (t.pan = s.pan ∨ t.pan = .empty ∨ ∃ v, i = .pushPan v) ∧
    (t.key = s.key ∨ t.key = .empty ∨ ∃ v, i = .pushKey v) ∧
    (t.a = s.a ∨ t.a = .empty ∨ ∃ v, i = .pushA v) ∧
    (t.b = s.b ∨ t.b = .empty ∨ ∃ v, i = .pushB v)

/-- R115: the completion is the only step that writes a result, sets DONE or sets ERR. -/
def Obligations.OnlyCompletionSetsOutcome : Prop :=
  ∀ (i : Instr) (s t : State), exec i s = .next t →
    (s.done = false → t.done = true → s.busy = true ∧ i.isOperation = true) ∧
    (s.err = false → t.err = true → s.busy = true ∧ i.isOperation = true) ∧
    (¬ t.out <:+ s.out → s.busy = true ∧ i.isOperation = true)

/-- R40: every completion empties all five operand buffers and CMDREG, and the start of a command empties OUT. -/
def Obligations.OperandsErasedAtCompletion : Prop :=
  ∀ (i : Instr) (s t : State), exec i s = .next t →
    (s.busy = true → t.busy = false → t.operandsEmpty ∧ t.cmdreg = 0x00#8 ∧ t.done = true) ∧
    (s.busy = false → t.busy = true → t.out = [])

/-- R214: the error state lasts until the next start of a command, CLEAR or reset, each of which clears it. -/
def Obligations.ErrorLastsUntilNextCommand : Prop :=
  ∀ s : State, s.Inv → s.err = true →
    (∀ i t, exec i s = .next t → ¬ endsOutcome i → t.err = true ∧ t.errcode = s.errcode) ∧
    (∀ i t, exec i s = .next t → endsOutcome i → t.err = false ∧ t.errcode = 0x0#4) ∧
    (∀ rest t, s.inbox = .reset :: rest → step s = .next t → t.err = false ∧ t.errcode = 0x0#4)

/-- The outcome of a completed command is held until the next accepted command write, CLEAR or reset: no other
instruction changes DONE, ERR or ERRCODE, and only a pop changes OUT (R59, R243). -/
def Obligations.OutcomeHeldUntilNextCommand : Prop :=
  ∀ (i : Instr) (s t : State), s.busy = false → exec i s = .next t → ¬ endsOutcome i →
    t.done = s.done ∧ t.err = s.err ∧ t.errcode = s.errcode ∧ (i ≠ .pop → t.out = s.out)

/-- The phase machine (R118): the phase stays, or a command write starts IDLE or DONE to BUSY, or the core completes
BUSY to DONE, or CLEAR takes IDLE or DONE to IDLE. -/
def Obligations.PhaseTransitions : Prop :=
  ∀ (i : Instr) (s t : State), s.Inv → exec i s = .next t →
    t.phase = s.phase ∨
    (s.busy = false ∧ t.phase = some .busy ∧ ∃ v, i = .cmd v ∧ v ≠ 0x00#8 ∧ v ≠ 0x0F#8) ∨
    (s.phase = some .busy ∧ t.phase = some .done ∧ i.isOperation = true) ∨
    (s.busy = false ∧ t.phase = some .idle ∧ (i = .clear ∨ i = .cmd 0x0F#8))

/-- No host read tells operand contents: in two states that differ in the operand buffers alone, every read returns the
same byte and leaves states that again differ in the operand buffers alone (R36, R56). -/
def Obligations.ReadsRevealNoOperand : Prop :=
  ∀ (s t : State) (addr : BitVec 4), s.sameButOperands t →
    ∃ s' t', exec (decodePort (.read addr)) s = .next s' ∧ exec (decodePort (.read addr)) t = .next t' ∧
      s'.rdata = t'.rdata ∧ s'.sameButOperands t'

/-- R76: the buffers a command does not read have no influence on its outcome, and are emptied like the others. -/
def Obligations.UnreadBuffersHaveNoInfluence : Prop :=
  ∀ s t : State, s.busy = true → t.busy = true → s.cfg = t.cfg →
    (∀ i s' t', exec i s = .next s' → exec i t = .next t' →
      (i = .encode ∧ s.pin = t.pin ∧ s.pan = t.pan) ∨ (i = .decode ∧ s.a = t.a ∧ s.pan = t.pan) ∨
      (i = .encrypt ∧ s.key = t.key ∧ s.a = t.a) ∨ (i = .decrypt ∧ s.key = t.key ∧ s.a = t.a) ∨
      (i = .xorhex ∧ s.a = t.a ∧ s.b = t.b) →
      sameOutcome s' t' ∧ s'.operandsEmpty ∧ t'.operandsEmpty)

/-- R62: the operation that completes is the one started, on the operands present at the start: however many host
transactions fall between (T_EXEC, R100), the completion leaves the same state, but for the byte last read. -/
def Obligations.CompletionIndependentOfHostSteps : Prop :=
  ∀ (s : State) (ts : List Transaction) (rest : List Event), s.Inv → s.busy = true →
    s.inbox = ts.map Event.port ++ .core :: rest →
    ∃ t u : State, step (s.setInbox (.core :: rest)) = .next u ∧
      runSteps (ts.length + 1) s = .next t ∧ t = u.answer t.rdata

/-- Every started command completes in one step of the core (R100, R246): the phase becomes DONE, with a result and no
code, or with a legal code other than 0 and no result. With an empty inbox the step is the core's by the model's choice
(log entry 2). -/
def Obligations.CoreTurnCompletesCommand : Prop :=
  ∀ (s : State) (rest : List Event), s.Inv → s.busy = true →
    s.inbox = .core :: rest ∨ (s.inbox = [] ∧ rest = []) →
    ∃ t : State, step s = .next t ∧ t.phase = some .done ∧ t.operandsEmpty ∧ t.cmdreg = 0x00#8 ∧ t.inbox = rest ∧
      (t.err = false ∧ t.errcode = 0x0#4 ∨
        t.err = true ∧ t.errcode ≠ 0x0#4 ∧ legalErrcode t.errcode ∧ t.out = [])

/-- R86: from any quiescent state with empty operand buffers, the pushes and the command of a call, for operands of any
length, complete with exactly the result of the pure function on the complete strings (so the stored summaries lose
nothing, R41). -/
def Obligations.CallReturnsPureFunction : Prop :=
  ∀ (c : Call) (s : State) (rest : List Event), s.ready = true → s.busy = false → s.operandsEmpty →
    s.inbox = c.events ++ rest →
    runSteps c.events.length s =
      .next { completed s (c.result (dataCap s.cfg)).out (c.result (dataCap s.cfg)).isErr
        (c.result (dataCap s.cfg)).code with inbox := rest }

/-- POPALL of R86: the pops return the characters of OUT in string order (R52). -/
def Obligations.PopallReturnsResultInOrder : Prop :=
  ∀ (s : State) (rest : List Event) (k : Nat), s.ready = true → k < s.out.length →
    s.inbox = popallEvents s.out.length ++ rest →
    ∃ t : State, runSteps (k + 2) s = .next t ∧ t.rdata = s.out.getD k 0x00#8 ∧
      t.out = s.out.drop (k + 1)

/-! ### What the operations compute -/

/-- R124: DECODE of an ENCODE with the same PAN gives the PIN back; letters come back upper case. -/
def Obligations.PinBlockRoundTrip : Prop :=
  ∀ pin pan : Str, 4 ≤ pin.length → pin.length ≤ 6 → 13 ≤ pan.length →
    ((∀ c ∈ pin, isDecimal c) → (∀ c ∈ lastPanDigits pan, isDecimal c) →
      ∃ o, encodeStr pin pan = .ok o ∧ decodeStr o pan = .ok pin) ∧
    (isHex pin = true → isHex (lastPanDigits pan) = true →
      ∃ o, encodeStr pin pan = .ok o ∧ decodeStr o pan = .ok (upper pin))

/-- R125: a PIN Block has 16 characters, each a digit or an upper-case letter; a decoded PIN has 1 to 6. -/
def Obligations.BlockSizeInvariant : Prop :=
  (∀ pin pan o : Str, encodeStr pin pan = .ok o → o.length = 16 ∧ ∀ c ∈ o, isResultChar c) ∧
  (∀ blk pan o : Str, decodeStr blk pan = .ok o → 1 ≤ o.length ∧ o.length ≤ 6)

/-- R126: ENCODE writes 0 at offset 0, and DECODE does not examine it. -/
def Obligations.ControlNibbleNotExamined : Prop :=
  (∀ pin pan o : Str, encodeStr pin pan = .ok o → o.head? = some 0x30#8) ∧
  (∀ (c d : Byte) (blk pan : Str), (hexVal c).isSome = true → (hexVal d).isSome = true →
    decodeStr (c :: blk) pan = decodeStr (d :: blk) pan)

/-- R128: ENCODE takes PIN lengths 4 to 6 only, DECODE gives every length from 1 to 6; so DECODE returns a PIN for a
block no ENCODE produces, and a PIN shorter than 4 that DECODE returned is no PIN for ENCODE. -/
def Obligations.LengthRangesDiffer : Prop :=
  (∀ pin pan o : Str, encodeStr pin pan = .ok o → 4 ≤ pin.length ∧ pin.length ≤ 6) ∧
  (∀ n, 1 ≤ n → n ≤ 6 → ∃ blk pan o : Str, decodeStr blk pan = .ok o ∧ o.length = n) ∧
  (∀ blk pan p pan' : Str, decodeStr blk pan = .ok p → p.length < 4 →
    encodeStr p pan' = .err .invalidPinLength) ∧
  decodeStr (hexText 16 0x0112345FFFFFFFFF) (hexText 13 0) = .ok (hexText 1 1) ∧
  (∀ pin pan : Str, encodeStr pin pan ≠ .ok (hexText 16 0x0112345FFFFFFFFF))

/-- R163: the worked examples of the DES core. -/
def Obligations.DesWorkedExamples : Prop :=
  Des.desEnc 0x133457799BBCDFF1 0x0123456789ABCDEF = 0x85E813540F0AB405 ∧
  Des.halves 0x0123456789ABCDEF = (0xCC00CCFF, 0xF0AAF0AA) ∧
  Des.rounds ((Des.roundKeys 0x133457799BBCDFF1).take 1) (Des.halves 0x0123456789ABCDEF) = (0xF0AAF0AA, 0xEF4A6544) ∧
  (Des.rounds ((Des.roundKeys 0x133457799BBCDFF1).take 2) (Des.halves 0x0123456789ABCDEF)).2 = 0xCC017709 ∧
  Des.rounds (Des.roundKeys 0x133457799BBCDFF1) (Des.halves 0x0123456789ABCDEF) = (0x43423234, 0x0A4CD995) ∧
  Des.desEnc 0x0123456789ABCDEF 0x041262876FEDCBA9 = 0x618B0EE2A2436403 ∧
  Des.c0 0x0123456789ABCDEF = 0xF0CCAA0 ∧ Des.d0 0x0123456789ABCDEF = 0xAACCF00 ∧
  (Des.roundKeys 0x0123456789ABCDEF)[0]? = some 0x0B02679B49A5 ∧
  (Des.roundKeys 0x0123456789ABCDEF)[15]? = some 0xCA3D03B87032 ∧
  Des.halves 0x041262876FEDCBA9 = (0x740239F8, 0xE8B4F05E) ∧
  (Des.rounds ((Des.roundKeys 0x0123456789ABCDEF).take 1) (Des.halves 0x041262876FEDCBA9)).2 = 0x70EE5509 ∧
  Des.rounds (Des.roundKeys 0x0123456789ABCDEF) (Des.halves 0x041262876FEDCBA9) = (0x1A5906BE, 0x690044A3) ∧
  Des.desEnc 0x0123456789ABCDEF 0x4E6F772069732074 = 0x3FA40E8A984D4815 ∧
  Des.desEnc 0 0 = 0x8CA64DE9C1B123A7 ∧
  Des.desEnc 0xFFFFFFFFFFFFFFFF 0xFFFFFFFFFFFFFFFF = 0x7359B2163E4EDC58 ∧
  Des.desEnc 0x0022446688AACCEE 0x041262876FEDCBA9 = 0x618B0EE2A2436403

/-- R162: DES deciphering and enciphering under one key are each other's inverse, for all keys and blocks. -/
def Obligations.DesInverse : Prop :=
  ∀ k x : Block, Des.desDec k (Des.desEnc k x) = x ∧ Des.desEnc k (Des.desDec k x) = x

/-- R143: Triple-DES is encrypt-decrypt-encrypt with K1 first, deciphering undoes it for all keys and blocks, and with
three equal keys it is single DES (R140). -/
def Obligations.TripleDesInverse : Prop :=
  (∀ (k : Keys) (x : Block),
    tdesEnc k x = Des.desEnc k.k3 (Des.desDec k.k2 (Des.desEnc k.k1 x)) ∧
    tdesDec k x = Des.desDec k.k1 (Des.desEnc k.k2 (Des.desDec k.k3 x)) ∧
    tdesDec k (tdesEnc k x) = x) ∧
  (∀ k x : Block, tdesEnc ⟨k, k, k⟩ x = Des.desEnc k x)

/-- R144: ECB treats each block alone, with the same keys and in order, and keeps the length. -/
def Obligations.EcbBlocksIndependent : Prop :=
  ∀ (k : Keys) (d e : List Byte), d.length % 8 = 0 → e.length % 8 = 0 →
    ecbEnc k (d ++ e) = ecbEnc k d ++ ecbEnc k e ∧ ecbDec k (d ++ e) = ecbDec k d ++ ecbDec k e ∧
    (ecbEnc k d).length = d.length ∧ (ecbDec k d).length = d.length ∧
    (d.length = 8 → ecbEnc k d = bytesOfBlock (tdesEnc k (blockOfBytes d)) ∧
      ecbDec k d = bytesOfBlock (tdesDec k (blockOfBytes d)))

/-- The parity bits of a DES key, bits 8, 16, ..., 64, influence no result (R146, R158). -/
def Obligations.ParityBitsIgnored : Prop :=
  ∀ k k' x : Block, (∀ i, i < 64 → i % 8 ≠ 7 → k.getMsbD i = k'.getMsbD i) →
    Des.desEnc k x = Des.desEnc k' x ∧ Des.desDec k x = Des.desDec k' x

/-- The cipher's properties (R145): deciphering what was enciphered under the same key gives the data back in upper
case, the length is kept, and a key of any other length than 48 is refused whatever the data. -/
def Obligations.CipherRoundTrip : Prop :=
  (∀ (cap : Nat) (key data c : Str), encryptStr cap key data = .ok c →
    decryptStr cap key c = .ok (upper data) ∧ c.length = data.length) ∧
  (∀ (cap : Nat) (key data : Str), key.length ≠ 48 →
    encryptStr cap key data = .err .invalidKeyLength ∧ decryptStr cap key data = .err .invalidKeyLength)

/-- R172: XORHEX keeps the length, is undone by itself, and of the two fields gives ENCODE's block. -/
def Obligations.XorhexProperties : Prop :=
  (∀ (cap : Nat) (a b o : Str), xorHexStr cap a b = .ok o →
    o.length = a.length ∧ o.length = b.length ∧ xorHexStr cap o b = .ok (upper a)) ∧
  (∀ (cap : Nat) (pin pan o : Str) (f g : List Nibble), 16 ≤ cap → encodeStr pin pan = .ok o → nibbles pin = some f →
    nibbles (lastPanDigits pan) = some g → xorHexStr cap (hexStr (pinField f)) (hexStr (panField g)) = .ok o)

/-- The hex converters (R79, R82): HexChar's two ranges, HexVal undoes it, HexChar of a hex character's value is the
character itself exactly for digits and upper-case letters and is its upper case always; HexEncode writes the high
nibble's character and then the low one's, HexDecode undoes it, and HexEncode of a decoded string is the string in
upper case. -/
def Obligations.HexConvertersInverse : Prop :=
  (∀ n : Nibble, (hexChar n).toNat = (if n.toNat ≤ 9 then 0x30 + n.toNat else 0x41 + (n.toNat - 10)) ∧
    hexVal (hexChar n) = some n) ∧
  (∀ (c : Byte) (n : Nibble), hexVal c = some n → hexChar n = upperChar c ∧ (hexChar n = c ↔ isResultChar c)) ∧
  (∀ bs : List Byte, (hexEncode bs).length = 2 * bs.length ∧ hexDecode (hexEncode bs) = some bs ∧
    ∀ k, k < bs.length →
      (hexEncode bs).getD (2 * k) 0x00#8 = hexChar ((bs.getD k 0x00#8).extractLsb' 4 4) ∧
      (hexEncode bs).getD (2 * k + 1) 0x00#8 = hexChar ((bs.getD k 0x00#8).extractLsb' 0 4)) ∧
  (∀ (s : Str) (bs : List Byte), hexDecode s = some bs → hexEncode bs = upper s)

/-! ### Errors and outputs -/

/-- R200: the value each error kind places in ERRCODE, and the codes the completion of each command can leave. -/
def Obligations.ErrorCodes : Prop :=
  (ErrorKind.invalidPinLength.code = 0x1#4 ∧ ErrorKind.invalidPanLength.code = 0x2#4 ∧
    ErrorKind.invalidBlockLength.code = 0x3#4 ∧ ErrorKind.invalidLengthDigit.code = 0x4#4 ∧
    ErrorKind.pinOutOfRange.code = 0x5#4 ∧ ErrorKind.invalidKeyLength.code = 0x6#4 ∧
    ErrorKind.invalidEncoding.code = 0x7#4 ∧ ErrorKind.lengthMismatch.code = 0x8#4 ∧
    ErrorKind.cipherFailure.code = 0x9#4 ∧ ErrorKind.illegalCommand.code = 0xF#4) ∧
  (∀ (i : Instr) (s t : State), i.isOperation = true → s.busy = true → exec i s = .next t →
    t.errcode ∈ codesOf i ∧ (t.errcode = 0x0#4 ↔ t.err = false))

/-- R209: CipherFailure is never raised: no instruction and no step sets ERRCODE to its code 9. -/
def Obligations.CipherFailureNeverRaised : Prop :=
  (∀ (i : Instr) (s t : State), s.errcode ≠ 0x9#4 → exec i s = .next t → t.errcode ≠ 0x9#4) ∧
  (∀ s t : State, s.errcode ≠ 0x9#4 → step s = .next t → t.errcode ≠ 0x9#4)

/-- R37: the three pins equal the STATUS bits at all times. -/
def Obligations.PinsMirrorStatus : Prop :=
  ∀ s : State, s.pins.busy = s.statusByte.getLsbD 0 ∧ s.pins.done = s.statusByte.getLsbD 1 ∧
    s.pins.err = s.statusByte.getLsbD 2
end

