-- ==== Sys2Proof/Laws/Cipher.lean ====
section
/-! SUPPORT. Small lemmas of the DES primitive and of blocks as bytes. -/

namespace Sys2Proof.Machine

/-- Bit i of a permuted vector is bit T[i] of the vector (R151), here counted from 0 at the left. -/
theorem Des.permute_getMsbD {m n : Nat} {T : List Nat} (x : BitVec n) (h : T.length = m) {i : Nat} (hi : i < m) :
    (Des.permute m T x).getMsbD i = x.getMsbD (T.getD i 0 - 1) := by
  subst h
  simp [Des.permute, hi]

theorem Des.rounds_nil (lr : BitVec 32 × BitVec 32) : Des.rounds [] lr = lr := rfl

theorem Des.rounds_cons (k : BitVec 48) (ks : List (BitVec 48)) (lr : BitVec 32 × BitVec 32) :
    Des.rounds (k :: ks) lr = Des.rounds ks (Des.round lr k) := rfl

theorem Des.rounds_append (ks ks' : List (BitVec 48)) (lr : BitVec 32 × BitVec 32) :
    Des.rounds (ks ++ ks') lr = Des.rounds ks' (Des.rounds ks lr) := by
  simp [Des.rounds, List.foldl_append]

@[simp] theorem bytesOfBlock_length (x : Block) : (bytesOfBlock x).length = 8 := rfl

@[simp] theorem ecb_zero (f : Block → Block) (d : List Byte) : ecb f 0 d = [] := rfl

/-- The first block of ECB stands alone, the rest follows (R144). -/
theorem ecb_succ (f : Block → Block) (n : Nat) (d : List Byte) :
    ecb f (n + 1) d = bytesOfBlock (f (blockOfBytes (d.take 8))) ++ ecb f n (d.drop 8) := rfl

/-- ECB over n blocks gives 8n bytes, whatever the data. -/
@[simp] theorem ecb_length (f : Block → Block) (n : Nat) (d : List Byte) : (ecb f n d).length = 8 * n := by
  induction n generalizing d with
  | zero => rfl
  | succ n ih => simp [ecb_succ, ih]; omega

end Sys2Proof.Machine
end

