-- ==== Sys2Proof/Laws/State.lean ====
section
/-! SUPPORT. One lemma per field per named update of the state, each true by rfl, so that no proof unfolds a record
update. -/

namespace Sys2Proof.Machine

section
variable (s : State) (c : Byte)
@[simp] theorem State.pushPin_cfg : (s.pushPin c).cfg = s.cfg := rfl
@[simp] theorem State.pushPin_pin : (s.pushPin c).pin = s.pin.push pinMax c := rfl
@[simp] theorem State.pushPin_pan : (s.pushPin c).pan = s.pan := rfl
@[simp] theorem State.pushPin_key : (s.pushPin c).key = s.key := rfl
@[simp] theorem State.pushPin_a : (s.pushPin c).a = s.a := rfl
@[simp] theorem State.pushPin_b : (s.pushPin c).b = s.b := rfl
@[simp] theorem State.pushPin_out : (s.pushPin c).out = s.out := rfl
@[simp] theorem State.pushPin_cmdreg : (s.pushPin c).cmdreg = s.cmdreg := rfl
@[simp] theorem State.pushPin_busy : (s.pushPin c).busy = s.busy := rfl
@[simp] theorem State.pushPin_done : (s.pushPin c).done = s.done := rfl
@[simp] theorem State.pushPin_err : (s.pushPin c).err = s.err := rfl
@[simp] theorem State.pushPin_errcode : (s.pushPin c).errcode = s.errcode := rfl
@[simp] theorem State.pushPin_ready : (s.pushPin c).ready = s.ready := rfl
@[simp] theorem State.pushPin_rdata : (s.pushPin c).rdata = s.rdata := rfl
@[simp] theorem State.pushPin_inbox : (s.pushPin c).inbox = s.inbox := rfl
end

section
variable (s : State) (c : Byte)
@[simp] theorem State.pushPan_cfg : (s.pushPan c).cfg = s.cfg := rfl
@[simp] theorem State.pushPan_pin : (s.pushPan c).pin = s.pin := rfl
@[simp] theorem State.pushPan_pan : (s.pushPan c).pan = s.pan.push c := rfl
@[simp] theorem State.pushPan_key : (s.pushPan c).key = s.key := rfl
@[simp] theorem State.pushPan_a : (s.pushPan c).a = s.a := rfl
@[simp] theorem State.pushPan_b : (s.pushPan c).b = s.b := rfl
@[simp] theorem State.pushPan_out : (s.pushPan c).out = s.out := rfl
@[simp] theorem State.pushPan_cmdreg : (s.pushPan c).cmdreg = s.cmdreg := rfl
@[simp] theorem State.pushPan_busy : (s.pushPan c).busy = s.busy := rfl
@[simp] theorem State.pushPan_done : (s.pushPan c).done = s.done := rfl
@[simp] theorem State.pushPan_err : (s.pushPan c).err = s.err := rfl
@[simp] theorem State.pushPan_errcode : (s.pushPan c).errcode = s.errcode := rfl
@[simp] theorem State.pushPan_ready : (s.pushPan c).ready = s.ready := rfl
@[simp] theorem State.pushPan_rdata : (s.pushPan c).rdata = s.rdata := rfl
@[simp] theorem State.pushPan_inbox : (s.pushPan c).inbox = s.inbox := rfl
end

section
variable (s : State) (c : Byte)
@[simp] theorem State.pushKey_cfg : (s.pushKey c).cfg = s.cfg := rfl
@[simp] theorem State.pushKey_pin : (s.pushKey c).pin = s.pin := rfl
@[simp] theorem State.pushKey_pan : (s.pushKey c).pan = s.pan := rfl
@[simp] theorem State.pushKey_key : (s.pushKey c).key = s.key.push keyHex c := rfl
@[simp] theorem State.pushKey_a : (s.pushKey c).a = s.a := rfl
@[simp] theorem State.pushKey_b : (s.pushKey c).b = s.b := rfl
@[simp] theorem State.pushKey_out : (s.pushKey c).out = s.out := rfl
@[simp] theorem State.pushKey_cmdreg : (s.pushKey c).cmdreg = s.cmdreg := rfl
@[simp] theorem State.pushKey_busy : (s.pushKey c).busy = s.busy := rfl
@[simp] theorem State.pushKey_done : (s.pushKey c).done = s.done := rfl
@[simp] theorem State.pushKey_err : (s.pushKey c).err = s.err := rfl
@[simp] theorem State.pushKey_errcode : (s.pushKey c).errcode = s.errcode := rfl
@[simp] theorem State.pushKey_ready : (s.pushKey c).ready = s.ready := rfl
@[simp] theorem State.pushKey_rdata : (s.pushKey c).rdata = s.rdata := rfl
@[simp] theorem State.pushKey_inbox : (s.pushKey c).inbox = s.inbox := rfl
end

section
variable (s : State) (c : Byte)
@[simp] theorem State.pushA_cfg : (s.pushA c).cfg = s.cfg := rfl
@[simp] theorem State.pushA_pin : (s.pushA c).pin = s.pin := rfl
@[simp] theorem State.pushA_pan : (s.pushA c).pan = s.pan := rfl
@[simp] theorem State.pushA_key : (s.pushA c).key = s.key := rfl
@[simp] theorem State.pushA_a : (s.pushA c).a = s.a.push (dataCap s.cfg) c := rfl
@[simp] theorem State.pushA_b : (s.pushA c).b = s.b := rfl
@[simp] theorem State.pushA_out : (s.pushA c).out = s.out := rfl
@[simp] theorem State.pushA_cmdreg : (s.pushA c).cmdreg = s.cmdreg := rfl
@[simp] theorem State.pushA_busy : (s.pushA c).busy = s.busy := rfl
@[simp] theorem State.pushA_done : (s.pushA c).done = s.done := rfl
@[simp] theorem State.pushA_err : (s.pushA c).err = s.err := rfl
@[simp] theorem State.pushA_errcode : (s.pushA c).errcode = s.errcode := rfl
@[simp] theorem State.pushA_ready : (s.pushA c).ready = s.ready := rfl
@[simp] theorem State.pushA_rdata : (s.pushA c).rdata = s.rdata := rfl
@[simp] theorem State.pushA_inbox : (s.pushA c).inbox = s.inbox := rfl
end

section
variable (s : State) (c : Byte)
@[simp] theorem State.pushB_cfg : (s.pushB c).cfg = s.cfg := rfl
@[simp] theorem State.pushB_pin : (s.pushB c).pin = s.pin := rfl
@[simp] theorem State.pushB_pan : (s.pushB c).pan = s.pan := rfl
@[simp] theorem State.pushB_key : (s.pushB c).key = s.key := rfl
@[simp] theorem State.pushB_a : (s.pushB c).a = s.a := rfl
@[simp] theorem State.pushB_b : (s.pushB c).b = s.b.push (dataCap s.cfg) c := rfl
@[simp] theorem State.pushB_out : (s.pushB c).out = s.out := rfl
@[simp] theorem State.pushB_cmdreg : (s.pushB c).cmdreg = s.cmdreg := rfl
@[simp] theorem State.pushB_busy : (s.pushB c).busy = s.busy := rfl
@[simp] theorem State.pushB_done : (s.pushB c).done = s.done := rfl
@[simp] theorem State.pushB_err : (s.pushB c).err = s.err := rfl
@[simp] theorem State.pushB_errcode : (s.pushB c).errcode = s.errcode := rfl
@[simp] theorem State.pushB_ready : (s.pushB c).ready = s.ready := rfl
@[simp] theorem State.pushB_rdata : (s.pushB c).rdata = s.rdata := rfl
@[simp] theorem State.pushB_inbox : (s.pushB c).inbox = s.inbox := rfl
end

section
variable (s : State)
@[simp] theorem State.emptyOperands_cfg : (s.emptyOperands).cfg = s.cfg := rfl
@[simp] theorem State.emptyOperands_pin : (s.emptyOperands).pin = CharBuf.empty := rfl
@[simp] theorem State.emptyOperands_pan : (s.emptyOperands).pan = PanBuf.empty := rfl
@[simp] theorem State.emptyOperands_key : (s.emptyOperands).key = CharBuf.empty := rfl
@[simp] theorem State.emptyOperands_a : (s.emptyOperands).a = CharBuf.empty := rfl
@[simp] theorem State.emptyOperands_b : (s.emptyOperands).b = CharBuf.empty := rfl
@[simp] theorem State.emptyOperands_out : (s.emptyOperands).out = s.out := rfl
@[simp] theorem State.emptyOperands_cmdreg : (s.emptyOperands).cmdreg = s.cmdreg := rfl
@[simp] theorem State.emptyOperands_busy : (s.emptyOperands).busy = s.busy := rfl
@[simp] theorem State.emptyOperands_done : (s.emptyOperands).done = s.done := rfl
@[simp] theorem State.emptyOperands_err : (s.emptyOperands).err = s.err := rfl
@[simp] theorem State.emptyOperands_errcode : (s.emptyOperands).errcode = s.errcode := rfl
@[simp] theorem State.emptyOperands_ready : (s.emptyOperands).ready = s.ready := rfl
@[simp] theorem State.emptyOperands_rdata : (s.emptyOperands).rdata = s.rdata := rfl
@[simp] theorem State.emptyOperands_inbox : (s.emptyOperands).inbox = s.inbox := rfl
end

section
variable (s : State) (v : Byte)
@[simp] theorem State.answer_cfg : (s.answer v).cfg = s.cfg := rfl
@[simp] theorem State.answer_pin : (s.answer v).pin = s.pin := rfl
@[simp] theorem State.answer_pan : (s.answer v).pan = s.pan := rfl
@[simp] theorem State.answer_key : (s.answer v).key = s.key := rfl
@[simp] theorem State.answer_a : (s.answer v).a = s.a := rfl
@[simp] theorem State.answer_b : (s.answer v).b = s.b := rfl
@[simp] theorem State.answer_out : (s.answer v).out = s.out := rfl
@[simp] theorem State.answer_cmdreg : (s.answer v).cmdreg = s.cmdreg := rfl
@[simp] theorem State.answer_busy : (s.answer v).busy = s.busy := rfl
@[simp] theorem State.answer_done : (s.answer v).done = s.done := rfl
@[simp] theorem State.answer_err : (s.answer v).err = s.err := rfl
@[simp] theorem State.answer_errcode : (s.answer v).errcode = s.errcode := rfl
@[simp] theorem State.answer_ready : (s.answer v).ready = s.ready := rfl
@[simp] theorem State.answer_rdata : (s.answer v).rdata = v := rfl
@[simp] theorem State.answer_inbox : (s.answer v).inbox = s.inbox := rfl
end

section
variable (s : State)
@[simp] theorem State.popOut_cfg : (s.popOut).cfg = s.cfg := rfl
@[simp] theorem State.popOut_pin : (s.popOut).pin = s.pin := rfl
@[simp] theorem State.popOut_pan : (s.popOut).pan = s.pan := rfl
@[simp] theorem State.popOut_key : (s.popOut).key = s.key := rfl
@[simp] theorem State.popOut_a : (s.popOut).a = s.a := rfl
@[simp] theorem State.popOut_b : (s.popOut).b = s.b := rfl
@[simp] theorem State.popOut_out : (s.popOut).out = s.out.tail := rfl
@[simp] theorem State.popOut_cmdreg : (s.popOut).cmdreg = s.cmdreg := rfl
@[simp] theorem State.popOut_busy : (s.popOut).busy = s.busy := rfl
@[simp] theorem State.popOut_done : (s.popOut).done = s.done := rfl
@[simp] theorem State.popOut_err : (s.popOut).err = s.err := rfl
@[simp] theorem State.popOut_errcode : (s.popOut).errcode = s.errcode := rfl
@[simp] theorem State.popOut_ready : (s.popOut).ready = s.ready := rfl
@[simp] theorem State.popOut_rdata : (s.popOut).rdata = s.out.headD 0x00#8 := rfl
@[simp] theorem State.popOut_inbox : (s.popOut).inbox = s.inbox := rfl
end

section
variable (s : State) (v : Byte)
@[simp] theorem State.start_cfg : (s.start v).cfg = s.cfg := rfl
@[simp] theorem State.start_pin : (s.start v).pin = s.pin := rfl
@[simp] theorem State.start_pan : (s.start v).pan = s.pan := rfl
@[simp] theorem State.start_key : (s.start v).key = s.key := rfl
@[simp] theorem State.start_a : (s.start v).a = s.a := rfl
@[simp] theorem State.start_b : (s.start v).b = s.b := rfl
@[simp] theorem State.start_out : (s.start v).out = [] := rfl
@[simp] theorem State.start_cmdreg : (s.start v).cmdreg = v := rfl
@[simp] theorem State.start_busy : (s.start v).busy = true := rfl
@[simp] theorem State.start_done : (s.start v).done = false := rfl
@[simp] theorem State.start_err : (s.start v).err = false := rfl
@[simp] theorem State.start_errcode : (s.start v).errcode = 0x0#4 := rfl
@[simp] theorem State.start_ready : (s.start v).ready = s.ready := rfl
@[simp] theorem State.start_rdata : (s.start v).rdata = s.rdata := rfl
@[simp] theorem State.start_inbox : (s.start v).inbox = s.inbox := rfl
end

section
variable (s : State)
@[simp] theorem State.clear_cfg : (s.clear).cfg = s.cfg := rfl
@[simp] theorem State.clear_pin : (s.clear).pin = CharBuf.empty := rfl
@[simp] theorem State.clear_pan : (s.clear).pan = PanBuf.empty := rfl
@[simp] theorem State.clear_key : (s.clear).key = CharBuf.empty := rfl
@[simp] theorem State.clear_a : (s.clear).a = CharBuf.empty := rfl
@[simp] theorem State.clear_b : (s.clear).b = CharBuf.empty := rfl
@[simp] theorem State.clear_out : (s.clear).out = [] := rfl
@[simp] theorem State.clear_cmdreg : (s.clear).cmdreg = 0x00#8 := rfl
@[simp] theorem State.clear_busy : (s.clear).busy = false := rfl
@[simp] theorem State.clear_done : (s.clear).done = false := rfl
@[simp] theorem State.clear_err : (s.clear).err = false := rfl
@[simp] theorem State.clear_errcode : (s.clear).errcode = 0x0#4 := rfl
@[simp] theorem State.clear_ready : (s.clear).ready = s.ready := rfl
@[simp] theorem State.clear_rdata : (s.clear).rdata = s.rdata := rfl
@[simp] theorem State.clear_inbox : (s.clear).inbox = s.inbox := rfl
end

section
variable (s : State) (r : Result)
@[simp] theorem State.complete_cfg : (s.complete r).cfg = s.cfg := rfl
@[simp] theorem State.complete_pin : (s.complete r).pin = CharBuf.empty := rfl
@[simp] theorem State.complete_pan : (s.complete r).pan = PanBuf.empty := rfl
@[simp] theorem State.complete_key : (s.complete r).key = CharBuf.empty := rfl
@[simp] theorem State.complete_a : (s.complete r).a = CharBuf.empty := rfl
@[simp] theorem State.complete_b : (s.complete r).b = CharBuf.empty := rfl
@[simp] theorem State.complete_out : (s.complete r).out = r.out := rfl
@[simp] theorem State.complete_cmdreg : (s.complete r).cmdreg = 0x00#8 := rfl
@[simp] theorem State.complete_busy : (s.complete r).busy = false := rfl
@[simp] theorem State.complete_done : (s.complete r).done = true := rfl
@[simp] theorem State.complete_err : (s.complete r).err = r.isErr := rfl
@[simp] theorem State.complete_errcode : (s.complete r).errcode = r.code := rfl
@[simp] theorem State.complete_ready : (s.complete r).ready = s.ready := rfl
@[simp] theorem State.complete_rdata : (s.complete r).rdata = s.rdata := rfl
@[simp] theorem State.complete_inbox : (s.complete r).inbox = s.inbox := rfl
end

section
variable (s : State) (e : ErrorKind)
@[simp] theorem State.raise_cfg : (s.raise e).cfg = s.cfg := rfl
@[simp] theorem State.raise_pin : (s.raise e).pin = CharBuf.empty := rfl
@[simp] theorem State.raise_pan : (s.raise e).pan = PanBuf.empty := rfl
@[simp] theorem State.raise_key : (s.raise e).key = CharBuf.empty := rfl
@[simp] theorem State.raise_a : (s.raise e).a = CharBuf.empty := rfl
@[simp] theorem State.raise_b : (s.raise e).b = CharBuf.empty := rfl
@[simp] theorem State.raise_out : (s.raise e).out = [] := rfl
@[simp] theorem State.raise_cmdreg : (s.raise e).cmdreg = 0x00#8 := rfl
@[simp] theorem State.raise_busy : (s.raise e).busy = false := rfl
@[simp] theorem State.raise_done : (s.raise e).done = true := rfl
@[simp] theorem State.raise_err : (s.raise e).err = true := rfl
@[simp] theorem State.raise_errcode : (s.raise e).errcode = e.code := rfl
@[simp] theorem State.raise_ready : (s.raise e).ready = s.ready := rfl
@[simp] theorem State.raise_rdata : (s.raise e).rdata = s.rdata := rfl
@[simp] theorem State.raise_inbox : (s.raise e).inbox = s.inbox := rfl
end

section
variable (s : State)
@[simp] theorem State.applyReset_cfg : (s.applyReset).cfg = s.cfg := rfl
@[simp] theorem State.applyReset_pin : (s.applyReset).pin = CharBuf.empty := rfl
@[simp] theorem State.applyReset_pan : (s.applyReset).pan = PanBuf.empty := rfl
@[simp] theorem State.applyReset_key : (s.applyReset).key = CharBuf.empty := rfl
@[simp] theorem State.applyReset_a : (s.applyReset).a = CharBuf.empty := rfl
@[simp] theorem State.applyReset_b : (s.applyReset).b = CharBuf.empty := rfl
@[simp] theorem State.applyReset_out : (s.applyReset).out = [] := rfl
@[simp] theorem State.applyReset_cmdreg : (s.applyReset).cmdreg = 0x00#8 := rfl
@[simp] theorem State.applyReset_busy : (s.applyReset).busy = false := rfl
@[simp] theorem State.applyReset_done : (s.applyReset).done = false := rfl
@[simp] theorem State.applyReset_err : (s.applyReset).err = false := rfl
@[simp] theorem State.applyReset_errcode : (s.applyReset).errcode = 0x0#4 := rfl
@[simp] theorem State.applyReset_ready : (s.applyReset).ready = true := rfl
@[simp] theorem State.applyReset_rdata : (s.applyReset).rdata = s.rdata := rfl
@[simp] theorem State.applyReset_inbox : (s.applyReset).inbox = s.inbox := rfl
end

section
variable (s : State) (l : List Event)
@[simp] theorem State.setInbox_cfg : (s.setInbox l).cfg = s.cfg := rfl
@[simp] theorem State.setInbox_pin : (s.setInbox l).pin = s.pin := rfl
@[simp] theorem State.setInbox_pan : (s.setInbox l).pan = s.pan := rfl
@[simp] theorem State.setInbox_key : (s.setInbox l).key = s.key := rfl
@[simp] theorem State.setInbox_a : (s.setInbox l).a = s.a := rfl
@[simp] theorem State.setInbox_b : (s.setInbox l).b = s.b := rfl
@[simp] theorem State.setInbox_out : (s.setInbox l).out = s.out := rfl
@[simp] theorem State.setInbox_cmdreg : (s.setInbox l).cmdreg = s.cmdreg := rfl
@[simp] theorem State.setInbox_busy : (s.setInbox l).busy = s.busy := rfl
@[simp] theorem State.setInbox_done : (s.setInbox l).done = s.done := rfl
@[simp] theorem State.setInbox_err : (s.setInbox l).err = s.err := rfl
@[simp] theorem State.setInbox_errcode : (s.setInbox l).errcode = s.errcode := rfl
@[simp] theorem State.setInbox_ready : (s.setInbox l).ready = s.ready := rfl
@[simp] theorem State.setInbox_rdata : (s.setInbox l).rdata = s.rdata := rfl
@[simp] theorem State.setInbox_inbox : (s.setInbox l).inbox = l := rfl
end

end Sys2Proof.Machine
end

