-- ==== Sys2Proof/Laws/Ops.lean ====
section
/-! SUPPORT. One lemma for each shared operation, saying everything it can do, so that proofs cite it and do not unfold
the operation. -/

namespace Sys2Proof.Machine

section
variable (s : State)

/-- A host write in phase BUSY is without effect (R57). -/
@[simp] theorem State.hostWrite_of_busy (f : State → State) (h : s.busy = true) : s.hostWrite f = s := by
  simp [State.hostWrite, h]

/-- A host write in phase IDLE or DONE takes effect. -/
@[simp] theorem State.hostWrite_of_quiet (f : State → State) (h : s.busy = false) : s.hostWrite f = f s := by
  simp [State.hostWrite, h]

/-- A host write is without effect, or the state was quiescent and the write took effect. -/
theorem State.hostWrite_cases (f : State → State) :
    s.busy = true ∧ s.hostWrite f = s ∨ s.busy = false ∧ s.hostWrite f = f s := by
  cases h : s.busy <;> simp [h]

@[simp] theorem State.coreComplete_of_busy (r : Result) (h : s.busy = true) : s.coreComplete r = s.complete r := by
  simp [State.coreComplete, h]

@[simp] theorem State.coreComplete_of_quiet (r : Result) (h : s.busy = false) : s.coreComplete r = s := by
  simp [State.coreComplete, h]

/-- The core completes the command when BUSY = 1 and waits otherwise (R115, R223). -/
theorem State.coreComplete_cases (r : Result) :
    s.busy = true ∧ s.coreComplete r = s.complete r ∨ s.busy = false ∧ s.coreComplete r = s := by
  cases h : s.busy <;> simp [h]

/-- An illegal byte's completion is that of `err(IllegalCommand)` (R117). -/
theorem State.completeIllegal_eq : s.completeIllegal = s.coreComplete (.err .illegalCommand) := rfl

@[simp] theorem State.cmdWrite_nop : s.cmdWrite 0x00#8 = s := rfl

@[simp] theorem State.cmdWrite_clear : s.cmdWrite 0x0F#8 = s.clear := rfl

@[simp] theorem State.cmdWrite_start (v : Byte) (h0 : v ≠ 0x00#8) (hF : v ≠ 0x0F#8) : s.cmdWrite v = s.start v := by
  simp [State.cmdWrite, h0, hF]

/-- A command write does nothing, clears, or starts the command (R111). -/
theorem State.cmdWrite_cases (v : Byte) :
    v = 0x00#8 ∧ s.cmdWrite v = s ∨ v = 0x0F#8 ∧ s.cmdWrite v = s.clear ∨
      (v ≠ 0x00#8 ∧ v ≠ 0x0F#8) ∧ s.cmdWrite v = s.start v := by
  by_cases h0 : v = 0x00#8
  · simp [h0]
  · by_cases hF : v = 0x0F#8
    · simp [hF]
    · simp [h0, hF]

end

/-- What a push to a capped buffer does (R28): one case below, at and above the capacity. -/
theorem CharBuf.push_cases (cap : Nat) (c : Byte) (x : CharBuf) :
    (x.len < cap ∧ x.push cap c = ⟨x.len + 1, x.ch ++ [c]⟩) ∨ (x.len = cap ∧ x.push cap c = ⟨cap + 1, x.ch⟩) ∨
      (cap < x.len ∧ x.push cap c = x) := by
  unfold CharBuf.push
  split
  · simp_all
  · split
    · simp_all
    · right; right; simp; omega

theorem CharBuf.empty_wf (cap : Nat) : CharBuf.empty.wf cap := by simp [CharBuf.wf, CharBuf.empty]

/-- A push keeps a capped buffer's form. -/
theorem CharBuf.push_wf {cap : Nat} {x : CharBuf} (c : Byte) (h : x.wf cap) : (x.push cap c).wf cap := by
  obtain ⟨h1, h2⟩ := h
  rcases x.push_cases cap c with ⟨hl, e⟩ | ⟨hl, e⟩ | ⟨hl, e⟩ <;> rw [e] <;> simp [CharBuf.wf] <;> omega

theorem PanBuf.empty_wf : PanBuf.empty.wf := by simp [PanBuf.wf, PanBuf.empty]

/-- A push keeps the PAN buffer's form, `len(PAN.win) = min(PAN.len, 12)` (R29). -/
theorem PanBuf.push_wf {x : PanBuf} (c : Byte) (h : x.wf) : (x.push c).wf := by
  obtain ⟨h1, h2⟩ := h
  simp only [panMin, panDigits] at h1 h2
  constructor
  · simp only [PanBuf.push, panMin]; split <;> omega
  · simp only [PanBuf.push, panMin, panDigits]
    split <;> split <;> simp [h2] <;> omega

/-- The capacity of A, B and OUT lies between 16 and 240 characters (R6). -/
theorem dataCap_bounds (c : Config) : 16 ≤ dataCap c ∧ dataCap c ≤ 240 := by
  have := c.nblkLessOne.isLt
  simp only [dataCap, Config.nblk, fieldHex]
  omega

end Sys2Proof.Machine
end

