-- ==== Sys2Proof/Laws/Exec.lean ====
section
/-! SUPPORT. What `exec` can do, said once: every instruction answers a next state of one of the shapes below. -/

namespace Sys2Proof.Machine

/-- The result with which the core completes an operation row (R116); none for a row the host carries out. -/
def coreResult (i : Instr) (s : State) : Option Result :=
  match i with
  | .encode => some s.encodeResult
  | .decode => some s.decodeResult
  | .encrypt => some s.encryptResult
  | .decrypt => some s.decryptResult
  | .xorhex => some s.xorHexResult
  | .illegal06_07 _ => some (.err .illegalCommand)
  | .illegal08_0B _ => some (.err .illegalCommand)
  | .illegal0C_0D _ => some (.err .illegalCommand)
  | .illegal0E => some (.err .illegalCommand)
  | .illegal10_1F _ => some (.err .illegalCommand)
  | .illegal20_3F _ => some (.err .illegalCommand)
  | .illegal40_7F _ => some (.err .illegalCommand)
  | .illegal80_FF _ => some (.err .illegalCommand)
  | _ => none

/-- The rows the core completes are the operation rows. -/
theorem coreResult_isSome (i : Instr) (s : State) : (coreResult i s).isSome = i.isOperation := by cases i <;> rfl

theorem isOperation_of_coreResult {i : Instr} {s : State} {r : Result} (h : coreResult i s = some r) :
    i.isOperation = true := by rw [← coreResult_isSome i s, h]; rfl

/-- An operation row is completed by the core with its result. -/
theorem exec_of_coreResult {i : Instr} {s : State} {r : Result} (h : coreResult i s = some r) :
    exec i s = .next (s.coreComplete r) := by
  cases i <;> simp only [coreResult, Option.some.injEq, reduceCtorEq] at h <;> subst h <;> rfl

/-- Everything an instruction can do to the state. -/
theorem exec_cases {i : Instr} {s t : State} (h : exec i s = .next t) :
    (t = s ∨ (i.isRead = true ∧ ∃ v, t = s.answer v) ∨ (i = .pop ∧ t = s.popOut)) ∨
    (s.busy = false ∧
      ((∃ v, i = .pushPin v ∧ t = s.pushPin v) ∨ (∃ v, i = .pushPan v ∧ t = s.pushPan v) ∨
       (∃ v, i = .pushKey v ∧ t = s.pushKey v) ∨ (∃ v, i = .pushA v ∧ t = s.pushA v) ∨
       (∃ v, i = .pushB v ∧ t = s.pushB v) ∨ ((i = .clear ∨ i = .cmd 0x0F#8) ∧ t = s.clear) ∨
       (∃ v, i = .cmd v ∧ v ≠ 0x00#8 ∧ v ≠ 0x0F#8 ∧ t = s.start v))) ∨
    (s.busy = true ∧ ∃ r, coreResult i s = some r ∧ t = s.complete r) := by
  cases hr : coreResult i s with
  | some r =>
    rw [exec_of_coreResult hr] at h
    injection h with h
    rcases s.coreComplete_cases r with ⟨hb, e⟩ | ⟨_, e⟩
    · exact .inr (.inr ⟨hb, r, rfl, h ▸ e⟩)
    · exact .inl (.inl (h ▸ e))
  | none =>
    cases i <;> simp only [coreResult, reduceCtorEq] at hr <;> injection h with h
    case nop | inertW1 | inertW2_3 | inertW4_7 | inertWD | inertWE_F => exact .inl (.inl h.symm)
    case rdStatus | rdErrcode | rdOutlen | inertR0 | inertR5 | inertR6_7 | inertR8_F =>
      exact .inl (.inr (.inl ⟨rfl, _, h.symm⟩))
    case pop => exact .inl (.inr (.inr ⟨rfl, h.symm⟩))
    case clear =>
      rcases s.hostWrite_cases State.clear with ⟨_, e⟩ | ⟨hb, e⟩
      · exact .inl (.inl (h ▸ e))
      · exact .inr (.inl ⟨hb, .inr (.inr (.inr (.inr (.inr (.inl ⟨.inl rfl, h ▸ e⟩)))))⟩)
    case pushPin v =>
      rcases s.hostWrite_cases (State.pushPin v) with ⟨_, e⟩ | ⟨hb, e⟩
      · exact .inl (.inl (h ▸ e))
      · exact .inr (.inl ⟨hb, .inl ⟨v, rfl, h ▸ e⟩⟩)
    case pushPan v =>
      rcases s.hostWrite_cases (State.pushPan v) with ⟨_, e⟩ | ⟨hb, e⟩
      · exact .inl (.inl (h ▸ e))
      · exact .inr (.inl ⟨hb, .inr (.inl ⟨v, rfl, h ▸ e⟩)⟩)
    case pushKey v =>
      rcases s.hostWrite_cases (State.pushKey v) with ⟨_, e⟩ | ⟨hb, e⟩
      · exact .inl (.inl (h ▸ e))
      · exact .inr (.inl ⟨hb, .inr (.inr (.inl ⟨v, rfl, h ▸ e⟩))⟩)
    case pushA v =>
      rcases s.hostWrite_cases (State.pushA v) with ⟨_, e⟩ | ⟨hb, e⟩
      · exact .inl (.inl (h ▸ e))
      · exact .inr (.inl ⟨hb, .inr (.inr (.inr (.inl ⟨v, rfl, h ▸ e⟩)))⟩)
    case pushB v =>
      rcases s.hostWrite_cases (State.pushB v) with ⟨_, e⟩ | ⟨hb, e⟩
      · exact .inl (.inl (h ▸ e))
      · exact .inr (.inl ⟨hb, .inr (.inr (.inr (.inr (.inl ⟨v, rfl, h ▸ e⟩))))⟩)
    case cmd v =>
      rcases s.hostWrite_cases (State.cmdWrite v) with ⟨_, e⟩ | ⟨hb, e⟩
      · exact .inl (.inl (h ▸ e))
      · rcases s.cmdWrite_cases v with ⟨_, e'⟩ | ⟨rfl, e'⟩ | ⟨⟨h0, hF⟩, e'⟩
        · exact .inl (.inl (h ▸ e.trans e'))
        · exact .inr (.inl ⟨hb, .inr (.inr (.inr (.inr (.inr (.inl ⟨.inr rfl, h ▸ e.trans e'⟩)))))⟩)
        · exact .inr (.inl ⟨hb, .inr (.inr (.inr (.inr (.inr (.inr ⟨v, rfl, h0, hF, h ▸ e.trans e'⟩)))))⟩)

end Sys2Proof.Machine
end

