-- ==== Sys2Proof/Laws/Hex.lean ====
section
/-! SUPPORT. Small lemmas of the hex converters and the XOR datapath. -/

namespace Sys2Proof.Machine

@[simp] theorem nibbles_nil : nibbles [] = some [] := rfl

@[simp] theorem hexStr_nil : hexStr [] = [] := rfl

@[simp] theorem hexStr_cons (n : Nibble) (ns : List Nibble) : hexStr (n :: ns) = hexChar n :: hexStr ns := rfl

@[simp] theorem hexStr_length (ns : List Nibble) : (hexStr ns).length = ns.length := by simp [hexStr]

/-- The nibbles of a string that starts with `c` are that character's nibble and the rest's. -/
theorem nibbles_cons_eq_some {c : Byte} {s : Str} {ns : List Nibble} :
    nibbles (c :: s) = some ns ↔ ∃ n m, hexVal c = some n ∧ nibbles s = some m ∧ ns = n :: m := by
  simp only [nibbles]
  cases hexVal c <;> cases nibbles s <;> simp [eq_comm]

/-- One nibble per character (R80). -/
theorem nibbles_length {s : Str} {ns : List Nibble} (h : nibbles s = some ns) : ns.length = s.length := by
  induction s generalizing ns with
  | nil => simp_all
  | cons c s ih =>
    obtain ⟨n, m, -, hm, rfl⟩ := nibbles_cons_eq_some.1 h
    simp [ih hm]

/-- `Nibbles(s)` is defined exactly when `IsHex(s)` (R80). -/
theorem nibbles_isSome (s : Str) : (nibbles s).isSome = isHex s := by
  induction s with
  | nil => rfl
  | cons c s ih =>
    simp only [isHex, nibbles, List.all_cons] at ih ⊢
    rw [← ih]
    cases hexVal c <;> cases nibbles s <;> rfl

@[simp] theorem xorNibbles_length (x y : List Nibble) : (xorNibbles x y).length = min x.length y.length := by
  simp [xorNibbles]

@[simp] theorem hexEncode_length (bs : List Byte) : (hexEncode bs).length = 2 * bs.length := by
  induction bs with
  | nil => rfl
  | cons b bs ih => simp [hexEncode, ih]; omega

end Sys2Proof.Machine
end

