-- ==== Sys2Proof/Laws/PerInstr.lean ====
section
/-! SUPPORT. Statements made once for every instruction. `MatchesTable`: the encoded word of a well-formed instruction
lies in that instruction's row of opcode_table.json. -/

namespace Sys2Proof.Laws.MatchesTable

set_option Elab.async false

/-- The word of a well-formed instruction matches its row's match and mask. -/
def Statement (i : Instr) : Prop := i.wellFormed = true → matchesRow (encode i) i.rowIndex = true

theorem nop : Statement .nop := by
  unfold Statement; decide +kernel
theorem encode : Statement .encode := by
  unfold Statement; decide +kernel
theorem decode : Statement .decode := by
  unfold Statement; decide +kernel
theorem encrypt : Statement .encrypt := by
  unfold Statement; decide +kernel
theorem decrypt : Statement .decrypt := by
  unfold Statement; decide +kernel
theorem xorhex : Statement .xorhex := by
  unfold Statement; decide +kernel
theorem clear : Statement .clear := by
  unfold Statement; decide +kernel
theorem illegal06_07 (v : Byte) : Statement (.illegal06_07 v) := by
  unfold Statement; revert v; decide +kernel
theorem illegal08_0B (v : Byte) : Statement (.illegal08_0B v) := by
  unfold Statement; revert v; decide +kernel
theorem illegal0C_0D (v : Byte) : Statement (.illegal0C_0D v) := by
  unfold Statement; revert v; decide +kernel
theorem illegal0E : Statement .illegal0E := by
  unfold Statement; decide +kernel
theorem illegal10_1F (v : Byte) : Statement (.illegal10_1F v) := by
  unfold Statement; revert v; decide +kernel
theorem illegal20_3F (v : Byte) : Statement (.illegal20_3F v) := by
  unfold Statement; revert v; decide +kernel
theorem illegal40_7F (v : Byte) : Statement (.illegal40_7F v) := by
  unfold Statement; revert v; decide +kernel
theorem illegal80_FF (v : Byte) : Statement (.illegal80_FF v) := by
  unfold Statement; revert v; decide +kernel
theorem cmd (v : Byte) : Statement (.cmd v) := by
  unfold Statement; revert v; decide +kernel
theorem rdStatus : Statement .rdStatus := by
  unfold Statement; decide +kernel
theorem rdErrcode : Statement .rdErrcode := by
  unfold Statement; decide +kernel
theorem rdOutlen : Statement .rdOutlen := by
  unfold Statement; decide +kernel
theorem pop : Statement .pop := by
  unfold Statement; decide +kernel
theorem pushPin (v : Byte) : Statement (.pushPin v) := by
  unfold Statement; revert v; decide +kernel
theorem pushPan (v : Byte) : Statement (.pushPan v) := by
  unfold Statement; revert v; decide +kernel
theorem pushKey (v : Byte) : Statement (.pushKey v) := by
  unfold Statement; revert v; decide +kernel
theorem pushA (v : Byte) : Statement (.pushA v) := by
  unfold Statement; revert v; decide +kernel
theorem pushB (v : Byte) : Statement (.pushB v) := by
  unfold Statement; revert v; decide +kernel
theorem inertR0 : Statement .inertR0 := by
  unfold Statement; decide +kernel
theorem inertR5 : Statement .inertR5 := by
  unfold Statement; decide +kernel
theorem inertR6_7 (addr : BitVec 4) : Statement (.inertR6_7 addr) := by
  unfold Statement; revert addr; decide +kernel
theorem inertR8_F (addr : BitVec 4) : Statement (.inertR8_F addr) := by
  unfold Statement; revert addr; decide +kernel
theorem inertW1 (v : Byte) : Statement (.inertW1 v) := by
  unfold Statement; revert v; decide +kernel
theorem inertW2_3 (addr : BitVec 4) (v : Byte) : Statement (.inertW2_3 addr v) := by
  unfold Statement; revert addr v; decide +kernel
theorem inertW4_7 (addr : BitVec 4) (v : Byte) : Statement (.inertW4_7 addr v) := by
  unfold Statement; revert addr v; decide +kernel
theorem inertWD (v : Byte) : Statement (.inertWD v) := by
  unfold Statement; revert v; decide +kernel
theorem inertWE_F (addr : BitVec 4) (v : Byte) : Statement (.inertWE_F addr v) := by
  unfold Statement; revert addr v; decide +kernel

end Sys2Proof.Laws.MatchesTable
end

