-- ==== Sys2Proof/Laws/Step.lean ====
section
/-! SUPPORT. What `step` and the turns of the three agents do, said once. -/

namespace Sys2Proof.Machine

theorem State.setInbox_eq (s : State) (l : List Event) : s.setInbox l = { s with inbox := l } := rfl

/-- With an empty inbox the core has its turn. -/
theorem step_of_nil {s : State} (h : s.inbox = []) : step s = quietTurn s := by simp [step, h]

/-- Otherwise the head of the inbox is taken. -/
theorem step_of_cons {s : State} {e : Event} {rest : List Event} (h : s.inbox = e :: rest) :
    step s = takeEvent e (s.setInbox rest) := by simp [step, h]

@[simp] theorem whenReady_of_ready {s : State} (f : State → Host.Outcome State Fault Refusal) (h : s.ready = true) :
    whenReady s f = f s := by simp [whenReady, h]

@[simp] theorem whenReady_of_not_ready {s : State} (f : State → Host.Outcome State Fault Refusal)
    (h : s.ready = false) : whenReady s f = .refused .beforeReset := by simp [whenReady, h]

/-- The core's turn: it waits, completes an unlisted latched byte with IllegalCommand, or runs the latched command. -/
theorem coreTurn_cases (s : State) :
    (s.busy = false ∧ coreTurn s = .next s) ∨
    (s.busy = true ∧ (s.cmdreg = 0x00#8 ∨ s.cmdreg = 0x0F#8) ∧ coreTurn s = .next (s.raise .illegalCommand)) ∨
    (s.busy = true ∧ (s.cmdreg ≠ 0x00#8 ∧ s.cmdreg ≠ 0x0F#8) ∧ coreTurn s = exec (decodeCmd s.cmdreg) s) := by
  unfold coreTurn
  cases hb : s.busy
  · simp
  · by_cases hc : s.cmdreg = 0x00#8 ∨ s.cmdreg = 0x0F#8
    · simp [hc]
    · rw [not_or] at hc; simp [hc.1, hc.2]

end Sys2Proof.Machine
end

