-- ==== Sys2Proof/Tests/Slice0.lean ====
section
/-! SUPPORT. The model's own tests: the well-formedness checks, one written word per constructor, the spec's vectors of
95_test_vectors.md and 96_port_vectors.md one step at a time, and a witness for every statement with hypotheses. -/

namespace Sys2Proof.Tests
open Sys2Proof.Machine Sys2Proof.Statements

set_option Elab.async false

/-! ### Helpers -/

/-- The outcome is a next state that meets a check. -/
def nextIs (o : Host.Outcome State Fault Refusal) (p : State → Bool) : Bool :=
  match o with
  | .next t => p t
  | _ => false

/-- The reset state with buffers filled by pushes and a command started. -/
def running (v : Byte) (pin pan key a b : Str) (nblk : Nat := 1) : State :=
  { State.reset with
    cfg := Config.ofNblk nblk, pin := pushAll 6 pin, pan := pushAllPan pan, key := pushAll 48 key,
    a := pushAll (16 * (Config.ofNblk nblk).nblk) a, b := pushAll (16 * (Config.ofNblk nblk).nblk) b,
    cmdreg := v, busy := true }

/-- A command that completed with an output, or failed with a code. -/
def doneWith (o : Str) : State := { State.reset with done := true, out := o }
def failedWith (c : BitVec 4) : State := { State.reset with done := true, err := true, errcode := c }

/-- What the host reads after a completion: STATUS, ERRCODE and OUT. -/
def outcomeIs (i : Instr) (s : State) (status : Byte) (code : BitVec 4) (o : Str) : Bool :=
  nextIs (exec i s) fun t => t.statusByte == status && t.errcode == code && t.out == o

/-- Operands of the vectors: PINs, PANs, blocks and keys of digits. -/
def pan16 : Str := hexText 16 0x1234567890123456
def keyA : Str := hexText 48 0x0123456789ABCDEF23456789ABCDEF01456789ABCDEF0123

/-! ### Well-formedness: one ill-formed term for each check -/

theorem test_illformed_illegal06_07 : (Instr.illegal06_07 0x08#8).wellFormed = false := by decide
theorem test_illformed_illegal08_0B : (Instr.illegal08_0B 0x0C#8).wellFormed = false := by decide
theorem test_illformed_illegal0C_0D : (Instr.illegal0C_0D 0x0E#8).wellFormed = false := by decide
theorem test_illformed_illegal10_1F : (Instr.illegal10_1F 0x0F#8).wellFormed = false := by decide
theorem test_illformed_illegal20_3F : (Instr.illegal20_3F 0x40#8).wellFormed = false := by decide
theorem test_illformed_illegal40_7F : (Instr.illegal40_7F 0x3F#8).wellFormed = false := by decide
theorem test_illformed_illegal80_FF : (Instr.illegal80_FF 0x7F#8).wellFormed = false := by decide
theorem test_illformed_inertR6_7 : (Instr.inertR6_7 0x5#4).wellFormed = false := by decide
theorem test_illformed_inertR8_F : (Instr.inertR8_F 0x7#4).wellFormed = false := by decide
theorem test_illformed_inertW2_3 : (Instr.inertW2_3 0x1#4 0x00#8).wellFormed = false := by decide
theorem test_illformed_inertW4_7 : (Instr.inertW4_7 0x8#4 0x00#8).wellFormed = false := by decide
theorem test_illformed_inertWE_F : (Instr.inertWE_F 0xD#4 0x00#8).wellFormed = false := by decide

/-! ### Decoding: words written out from the tables of R72 and R73, one per constructor -/

theorem test_decode_nop : decodeTableWord 8 0b00000000 = some .nop := by decide
theorem test_decode_encode : decodeTableWord 8 0b00000001 = some .encode := by decide
theorem test_decode_decode : decodeTableWord 8 0b00000010 = some .decode := by decide
theorem test_decode_encrypt : decodeTableWord 8 0b00000011 = some .encrypt := by decide
theorem test_decode_decrypt : decodeTableWord 8 0b00000100 = some .decrypt := by decide
theorem test_decode_xorhex : decodeTableWord 8 0b00000101 = some .xorhex := by decide
theorem test_decode_clear : decodeTableWord 8 0b00001111 = some .clear := by decide
theorem test_decode_illegal06_07 : decodeTableWord 8 0b00000111 = some (.illegal06_07 0x07#8) := by decide
theorem test_decode_illegal08_0B : decodeTableWord 8 0b00001010 = some (.illegal08_0B 0x0A#8) := by decide
theorem test_decode_illegal0C_0D : decodeTableWord 8 0b00001101 = some (.illegal0C_0D 0x0D#8) := by decide
theorem test_decode_illegal0E : decodeTableWord 8 0b00001110 = some .illegal0E := by decide
theorem test_decode_illegal10_1F : decodeTableWord 8 0b00010001 = some (.illegal10_1F 0x11#8) := by decide
theorem test_decode_illegal20_3F : decodeTableWord 8 0b00111111 = some (.illegal20_3F 0x3F#8) := by decide
theorem test_decode_illegal40_7F : decodeTableWord 8 0b01000101 = some (.illegal40_7F 0x45#8) := by decide
theorem test_decode_illegal80_FF : decodeTableWord 8 0b10000001 = some (.illegal80_FF 0x81#8) := by decide
theorem test_decode_cmd : decodeTableWord 16 0b1_0000_00000101 = some (.cmd 0x05#8) := by decide
theorem test_decode_rdStatus : decodeTableWord 16 0b0_0001_00000000 = some .rdStatus := by decide
theorem test_decode_rdErrcode : decodeTableWord 16 0b0_0010_00000000 = some .rdErrcode := by decide
theorem test_decode_rdOutlen : decodeTableWord 16 0b0_0011_00000000 = some .rdOutlen := by decide
theorem test_decode_pop : decodeTableWord 16 0b0_0100_00000000 = some .pop := by decide
theorem test_decode_pushPin : decodeTableWord 16 0b1_1000_00110001 = some (.pushPin 0x31#8) := by decide
theorem test_decode_pushPan : decodeTableWord 16 0b1_1001_00110010 = some (.pushPan 0x32#8) := by decide
theorem test_decode_pushKey : decodeTableWord 16 0b1_1010_01000001 = some (.pushKey 0x41#8) := by decide
theorem test_decode_pushA : decodeTableWord 16 0b1_1011_01000110 = some (.pushA 0x46#8) := by decide
theorem test_decode_pushB : decodeTableWord 16 0b1_1100_11111111 = some (.pushB 0xFF#8) := by decide
theorem test_decode_inertR0 : decodeTableWord 16 0b0_0000_00000000 = some .inertR0 := by decide
theorem test_decode_inertR5 : decodeTableWord 16 0b0_0101_00000000 = some .inertR5 := by decide
theorem test_decode_inertR6_7 : decodeTableWord 16 0b0_0111_00000000 = some (.inertR6_7 0x7#4) := by decide
theorem test_decode_inertR8_F : decodeTableWord 16 0b0_1100_00000000 = some (.inertR8_F 0xC#4) := by decide
theorem test_decode_inertW1 : decodeTableWord 16 0b1_0001_10000000 = some (.inertW1 0x80#8) := by decide
theorem test_decode_inertW2_3 : decodeTableWord 16 0b1_0011_00000001 = some (.inertW2_3 0x3#4 0x01#8) := by decide
theorem test_decode_inertW4_7 : decodeTableWord 16 0b1_0110_00000010 = some (.inertW4_7 0x6#4 0x02#8) := by decide
theorem test_decode_inertWD : decodeTableWord 16 0b1_1101_00000100 = some (.inertWD 0x04#8) := by decide
theorem test_decode_inertWE_F : decodeTableWord 16 0b1_1111_00001000 = some (.inertWE_F 0xF#4 0x08#8) := by decide

/-- A read's data bits are PB0's answer: the word of the row with any data is the same instruction. -/
theorem test_decode_read_data : decodeTableWord 16 0x04FF = some .pop := by decide

/-- Bits above the 13 of a PORT word make it no instruction. -/
theorem test_decode_unused_bits : decodeTableWord 16 0x3000 = none := by decide

/-! ### Placing a word for the next step -/

theorem test_fetch_push : nextIs (step (State.reset.withFetchWord 16 0x1831)) (fun t =>
    t.pin == ⟨1, [0x31#8]⟩ && t.inbox == []) = true := by decide
theorem test_fetch_illegal : nextIs (step (State.reset.withFetchWord 8 0x81)) (fun t =>
    t.errcode == 0xF#4 && t.statusByte == 0x06#8) = true := by decide
theorem test_fetch_clear : nextIs (step ((failedWith 0x1#4).withFetchWord 8 0x0F)) (· == State.reset) = true := by
  decide
theorem test_fetch_before_reset : nextIs (step { State.reset with ready := false }) (fun _ => true) = false := by
  decide

/-! ### Hex converters (95 §2) -/

/-- H1 to H6. -/
theorem test_hexVal_digits : [0x30#8, 0x39#8, 0x41#8, 0x46#8, 0x61#8, 0x66#8].map hexVal =
    [some 0x0#4, some 0x9#4, some 0xA#4, some 0xF#4, some 0xA#4, some 0xF#4] := by decide
/-- H7 to H15. -/
theorem test_hexVal_invalid : ([0x47#8, 0x67#8, 0x2F#8, 0x3A#8, 0x40#8, 0x60#8, 0x20#8, 0x00#8, 0xFF#8].all fun c =>
    hexVal c == none) = true := by decide
/-- H19. -/
theorem test_hexDecode : hexDecode [0x30#8, 0x34#8, 0x31#8, 0x32#8, 0x66#8, 0x46#8, 0x41#8, 0x30#8] =
    some [0x04#8, 0x12#8, 0xFF#8, 0xA0#8] := by decide
/-- H22. -/
theorem test_hexDecode_odd : hexDecode [0x41#8, 0x42#8, 0x43#8] = none := by decide
/-- H25. -/
theorem test_dec2 : [4, 5, 6].map dec2 = [[0x30#8, 0x34#8], [0x30#8, 0x35#8], [0x30#8, 0x36#8]] := by decide

/-! ### The DES core (95 §5.1) -/

/-- DS7: a bit no table may lose. -/
theorem test_des_ds7 : Des.desEnc 0x0101010101010101 0x8000000000000000 = 0x95F8A5E5DD31D900 := by decide +kernel
/-- DS8: a key bit no table may lose. -/
theorem test_des_ds8 : Des.desEnc 0x8001010101010101 0x0000000000000000 = 0x95A8D72813DAA94D := by decide +kernel
/-- DS1 back. -/
theorem test_des_dec : Des.desDec 0x133457799BBCDFF1 0x85E813540F0AB405 = 0x0123456789ABCDEF := by decide +kernel

/-! ### Operations: vectors of 95 §3 to §5, each one completion -/

/-- E4. -/
theorem test_encode_e4 : outcomeIs .encode
    (running 0x01#8 (hexText 6 0x123456) (hexText 16 0x5555555555554444) [] [] []) 0x02#8 0x0#4
    (hexText 16 0x06126103AAAABBBB) = true := by decide +kernel
/-- E25: both lengths wrong, check 1 wins. -/
theorem test_encode_e25 : outcomeIs .encode (running 0x01#8 (hexText 3 0x123) (hexText 12 0x123456789012) [] [] [])
    0x06#8 0x1#4 [] = true := by decide +kernel
/-- DC16: a wrong PAN, letters in the PIN, no error. -/
theorem test_decode_dc16 : outcomeIs .decode (running 0x02#8 [] (hexText 16 0x0000999999999999) []
    (hexText 16 0x061234FFFFFFFFFF) []) 0x02#8 0x0#4 (hexText 6 0x12AD66) = true := by decide +kernel
/-- DC32: length nibble 9 is PinOutOfRange. -/
theorem test_decode_dc32 : outcomeIs .decode (running 0x02#8 [] (hexText 13 0) [] (hexText 16 0x0912345678FFFFFF) [])
    0x06#8 0x5#4 [] = true := by decide +kernel
/-- CE10: two blocks under three different key parts. -/
theorem test_encrypt_ce10 : outcomeIs .encrypt (running 0x03#8 [] [] keyA
    (hexText 32 0x54686520717569636B2062726F776E20) [] 2) 0x02#8 0x0#4
    (hexText 32 0x1CCF23869D09333ECCE21C8112256FE6) = true := by decide +kernel
/-- CE30: 32 characters exceed DATA_CAP with NBLK = 1. -/
theorem test_encrypt_ce30 : outcomeIs .encrypt (running 0x03#8 [] [] keyA
    (hexText 32 0x54686520717569636B2062726F776E20) []) 0x06#8 0x3#4 [] = true := by decide +kernel
/-- CD7. -/
theorem test_decrypt_cd7 : outcomeIs .decrypt (running 0x04#8 [] [] keyA (hexText 16 0x4EBA739C998BCB60) [])
    0x02#8 0x0#4 (hexText 16 0) = true := by decide +kernel
/-- CE26: a short key with empty data, the key length wins. -/
theorem test_decrypt_ce26 : outcomeIs .decrypt (running 0x04#8 [] [] (keyA.take 47) [] []) 0x06#8 0x6#4 [] = true := by
  decide +kernel
/-- X6: lower case in, upper case out. -/
theorem test_xorhex_x6 : outcomeIs .xorhex (running 0x05#8 [] [] [] [0x61#8, 0x62#8] (hexText 2 0xFF))
    0x02#8 0x0#4 (hexText 2 0x54) = true := by decide +kernel
/-- X23: unequal, one odd: mismatch wins. -/
theorem test_xorhex_x23 : outcomeIs .xorhex (running 0x05#8 [] [] [] (hexText 3 0xABC) (hexText 4 0xABCD))
    0x06#8 0x8#4 [] = true := by decide +kernel
/-- PT8: an illegal byte empties the operands. -/
theorem test_illegal : nextIs (exec (.illegal06_07 0x07#8) (running 0x07#8 (hexText 4 0x1234) [] [] [] [])) (fun t =>
    t.statusByte == 0x06#8 && t.errcode == 0xF#4 && t.pin == .empty && t.cmdreg == 0x00#8) = true := by decide

/-! ### Port transactions (96) -/

/-- PT2: the seventh PIN push is counted and not stored. -/
theorem test_pushPin_seventh :
    nextIs (exec (.pushPin 0x37#8) { State.reset with pin := pushAll 6 (hexText 6 0x123456) }) (fun t =>
      t.pin == ⟨7, hexText 6 0x123456⟩) = true := by decide
/-- PT3: the thirteenth PAN push drops the oldest character. -/
theorem test_pushPan_window :
    nextIs (exec (.pushPan 0x33#8) { State.reset with pan := pushAllPan (hexText 12 0x123456789012) }) (fun t =>
      t.pan == ⟨13, hexText 12 0x234567890123⟩) = true := by decide
/-- R104: the forty-ninth KEY push. -/
theorem test_pushKey_49th : nextIs (exec (.pushKey 0x30#8) { State.reset with key := pushAll 48 keyA }) (fun t =>
      t.key == ⟨49, keyA⟩) = true := by decide +kernel
/-- R105: with NBLK = 1 the seventeenth push to A. -/
theorem test_pushA_17th : nextIs (exec (.pushA 0x30#8) { State.reset with a := pushAll 16 pan16 }) (fun t =>
      t.a == ⟨17, pan16⟩) = true := by decide
/-- With NBLK = 2 the seventeenth is stored. -/
theorem test_pushA_nblk2 :
    nextIs (exec (.pushA 0x30#8) { State.reset with cfg := Config.ofNblk 2, a := pushAll 32 pan16 }) (fun t =>
      t.a == ⟨17, pan16 ++ [0x30#8]⟩) = true := by decide
/-- R106. -/
theorem test_pushB : nextIs (exec (.pushB 0x46#8) { State.reset with b := ⟨1, [0x30#8]⟩ }) (fun t =>
    t.b == ⟨2, [0x30#8, 0x46#8]⟩) = true := by decide
/-- R110's example. -/
theorem test_pop : nextIs (exec .pop (doneWith (hexText 4 0x0412))) (fun t =>
    t.rdata == 0x30#8 && t.out == hexText 3 0x412 && t.done) = true := by decide
/-- R109's example. -/
theorem test_rdOutlen : nextIs (exec .rdOutlen (doneWith pan16)) (·.rdata == 0x10#8) = true := by decide
/-- R107. -/
theorem test_rdStatus : nextIs (exec .rdStatus (failedWith 0x7#4)) (·.rdata == 0x06#8) = true := by decide
/-- R108's example. -/
theorem test_rdErrcode : nextIs (exec .rdErrcode (failedWith 0x1#4)) (·.rdata == 0x01#8) = true := by decide
/-- R112's example: NOP in phase DONE. -/
theorem test_nop : nextIs (exec (.cmd 0x00#8) (doneWith pan16)) (· == doneWith pan16) = true := by decide
/-- R113's example: CLEAR after a failed command. -/
theorem test_clear : nextIs (exec (.cmd 0x0F#8) (failedWith 0x1#4)) (· == State.reset) = true := by decide
/-- PT5: CLEAR in phase BUSY is lost. -/
theorem test_clear_busy : nextIs (exec .clear (running 0x01#8 [] pan16 [] [] [])) (fun t => t.busy && t.pan.len == 13)
    = true := by decide
/-- PT9: a new command discards an unread result. -/
theorem test_cmd_start : nextIs (exec (.cmd 0x05#8) (doneWith pan16)) (fun t =>
    t.out == [] && t.statusByte == 0x01#8 && t.cmdreg == 0x05#8) = true := by decide
/-- PT1 and PT4: inert accesses. -/
theorem test_inert_reads : ([.inertR0, .inertR5, .inertR6_7 0x6#4, .inertR8_F 0xA#4].all fun i =>
    nextIs (exec i (running 0x01#8 (hexText 4 0x1234) [] [] [] [])) (·.rdata == 0x00#8)) = true := by decide
theorem test_inert_writes : ([.inertW1 0xFF#8, .inertW2_3 0x2#4 0xFF#8, .inertW4_7 0x4#4 0xFF#8, .inertWD 0xFF#8,
    .inertWE_F 0xE#4 0xFF#8].all fun i => nextIs (exec i (doneWith pan16)) (· == doneWith pan16)) = true := by decide
/-- PT10: a reset in phase BUSY. -/
theorem test_reset_busy : nextIs (step { running 0x01#8 (hexText 4 0x1234) pan16 [] [] [] with inbox := [.reset] })
    (· == State.reset) = true := by decide

/-! ### States the witnesses use, all of which meet the invariant -/

theorem inv_reset : State.reset.Inv := by constructor <;> first | decide | (constructor <;> decide)
theorem inv_running : (running 0x01#8 (hexText 4 0x1234) pan16 [] [] []).Inv := by
  constructor <;> first | decide | (constructor <;> decide)
theorem inv_done : (doneWith pan16).Inv := by constructor <;> first | decide | (constructor <;> decide)
theorem inv_failed : (failedWith 0xF#4).Inv := by constructor <;> first | decide | (constructor <;> decide)
theorem inv_full : ({ doneWith (List.replicate 240 0x41#8) with cfg := Config.ofNblk 15 } : State).Inv := by
  constructor <;> first | decide +kernel | (constructor <;> decide +kernel)

/-- Checks of `inbox`, `ready` and `busy` that the witnesses share. -/
def withInbox (s : State) (l : List Event) : State := { s with inbox := l }
def busyState : State := running 0x01#8 (hexText 4 0x1234) pan16 [] [] []
def unready : State := { busyState with ready := false, done := true }

/-! ### Witnesses: concrete states and operands that meet each statement's hypotheses -/

theorem witness_DecodeOfEncode : ([.illegal06_07 0x06#8, .illegal06_07 0x07#8, .illegal08_0B 0x0B#8,
    .illegal0C_0D 0x0C#8, .illegal10_1F 0x1F#8, .illegal20_3F 0x20#8, .illegal40_7F 0x7F#8, .illegal80_FF 0xFF#8,
    .cmd 0xFF#8, .pushPin 0xFF#8, .inertR6_7 0x6#4, .inertR8_F 0x8#4, .inertR8_F 0xF#4, .inertW2_3 0x3#4 0xFF#8,
    .inertW4_7 0x7#4 0x00#8, .inertWE_F 0xE#4 0xFF#8].all Instr.wellFormed) = true := by decide

theorem witness_StepRunsDecodedInstruction_port : (withInbox busyState [.port (.read 0xF#4), .core]).ready = true ∧
    (withInbox busyState [.port (.read 0xF#4), .core]).inbox = .port (.read 0xF#4) :: [.core] := by decide
theorem witness_StepRunsDecodedInstruction_core : (withInbox busyState [.core]).ready = true ∧
    (withInbox busyState [.core]).inbox = .core :: [] ∧ (withInbox busyState [.core]).busy = true ∧
    (withInbox busyState [.core]).cmdreg ≠ 0x00#8 ∧ (withInbox busyState [.core]).cmdreg ≠ 0x0F#8 := by decide
theorem witness_StepRunsDecodedInstruction_quiet : busyState.ready = true ∧ busyState.inbox = [] ∧
    busyState.busy = true ∧ busyState.cmdreg ≠ 0x00#8 ∧ busyState.cmdreg ≠ 0x0F#8 := by decide
theorem witness_StepRunsDecodedInstruction_wait : (withInbox State.reset [.core]).ready = true ∧
    (withInbox State.reset [.core]).inbox = .core :: [] ∧ (withInbox State.reset [.core]).busy = false ∧
    State.reset.ready = true ∧ State.reset.inbox = [] ∧ State.reset.busy = false := by decide
theorem witness_ResetStepClearsEverything : (withInbox unready [.reset]).inbox = .reset :: [] ∧
    (withInbox (doneWith pan16) [.reset, .core]).inbox = .reset :: [.core] ∧
    (withInbox (doneWith pan16) [.reset, .core]).ready = true ∧
    (withInbox (doneWith pan16) [.reset, .core]).busy = false := by decide
theorem witness_ResetAbortsCommand : (withInbox busyState [.reset, .core]).busy = true ∧
    (withInbox busyState [.reset, .core]).inbox = .reset :: .core :: [] := by decide
theorem witness_RefusedOnlyBeforeReset : (unready.ready = false ∧ unready.inbox.head? ≠ some .reset) ∧
    ¬(State.reset.ready = false ∧ State.reset.inbox.head? ≠ some .reset) := by decide
theorem witness_EveryStepAfterResetHasNextState : ({ unready with ready := true } : State).ready = true := by decide
theorem witness_StepKeepsInvariant : busyState.Inv ∧
    step busyState = .next (busyState.complete busyState.encodeResult) := ⟨inv_running, rfl⟩
theorem witness_ResetReachesInvariant : (withInbox unready [.reset]).inbox = .reset :: [] := by decide

theorem witness_ReadStatusReturnsFlags : State.reset.Inv ∧ busyState.Inv ∧ (doneWith pan16).Inv ∧
    (failedWith 0xF#4).Inv := ⟨inv_reset, inv_running, inv_done, inv_failed⟩
theorem witness_ReadErrcodeReturnsCode : (State.reset.Inv ∧ State.reset.phase = some .idle) ∧
    (busyState.Inv ∧ busyState.phase = some .busy) ∧ (doneWith pan16).Inv ∧ (doneWith pan16).err = false :=
  ⟨⟨inv_reset, rfl⟩, ⟨inv_running, rfl⟩, inv_done, rfl⟩
theorem witness_ReadOutlenReturnsLength : ∃ s : State, s.Inv ∧ s.out.length = 240 :=
  ⟨_, inv_full, List.length_replicate⟩
theorem witness_PopRemovesFront : State.reset.out = [] ∧ (doneWith [0x30#8]).out = 0x30#8 :: [] ∧
    (busyState.Inv ∧ busyState.busy = true) ∧ (failedWith 0xF#4).Inv ∧ (failedWith 0xF#4).err = true :=
  ⟨rfl, rfl, ⟨inv_running, rfl⟩, inv_failed, rfl⟩
theorem witness_InertAccessesChangeNothing :
    ([0x0#4, 0x5#4, 0xF#4].all fun a => decide (a.toNat = 0 ∨ 5 ≤ a.toNat)) = true ∧
    ([0x1#4, 0x7#4, 0xD#4, 0xF#4].all fun a => decide ((1 ≤ a.toNat ∧ a.toNat ≤ 7) ∨ 13 ≤ a.toNat)) = true := by
  decide

theorem witness_PushToCappedBuffer_below : State.reset.busy = false ∧ State.reset.pin.len < 6 ∧
    State.reset.key.len < 48 ∧ State.reset.a.len < 16 * State.reset.cfg.nblk ∧
    State.reset.b.len < 16 * State.reset.cfg.nblk := by decide
theorem witness_PushToCappedBuffer_at : ∃ s : State, s.busy = false ∧ s.pin.len = 6 ∧ s.key.len = 48 ∧
    s.a.len = 16 * s.cfg.nblk ∧ s.b.len = 16 * s.cfg.nblk :=
  ⟨{ State.reset with
     pin := pushAll 6 (hexText 6 0), key := pushAll 48 keyA, a := pushAll 16 pan16, b := pushAll 16 pan16 },
   by decide +kernel⟩
theorem witness_PushToCappedBuffer_above : ∃ s : State, s.busy = false ∧ s.pin.len = 7 ∧ s.key.len = 49 ∧
    s.a.len = 16 * s.cfg.nblk + 1 ∧ s.b.len = 16 * s.cfg.nblk + 1 :=
  ⟨{ State.reset with
     pin := pushAll 6 (hexText 8 0), key := pushAll 48 (keyA ++ pan16), a := pushAll 16 keyA,
     b := pushAll 16 keyA }, by decide +kernel⟩
theorem witness_PushToCappedBuffer_busy : busyState.busy = true ∧ busyState.pin.len < 6 := by decide
theorem witness_PushToPanWindow : State.reset.busy = false ∧
    ∃ s : State, s.busy = false ∧ s.pan.len = 13 ∧ s.pan.win.length = 12 :=
  ⟨rfl, { State.reset with pan := pushAllPan pan16 }, by decide⟩
theorem witness_AccessesWhileBusy : busyState.Inv ∧ busyState.busy = true := ⟨inv_running, rfl⟩
theorem witness_ClearLeavesResetState : (doneWith pan16).busy = false ∧ busyState.busy = true := by decide
theorem witness_CommandWriteStarts : (doneWith pan16).busy = false ∧
    ([0x01#8, 0x05#8, 0x06#8, 0x0E#8, 0x10#8, 0xFF#8].all fun v => v != 0x00#8 && v != 0x0F#8) = true := by decide

theorem witness_EncodeResult_pin : ∃ s t : State, (s.busy = true ∧ s.pin.wf 6 ∧ s.pan.wf ∧ s.pin.len = 3) ∧
    t.busy = true ∧ t.pin.wf 6 ∧ t.pan.wf ∧ t.pin.len = 7 :=
  ⟨running 0x01#8 (hexText 3 0) pan16 [] [] [], running 0x01#8 (hexText 9 0) pan16 [] [] [],
   by simp only [CharBuf.wf, PanBuf.wf]; decide⟩
theorem witness_EncodeResult_pan : ∃ s : State, s.busy = true ∧ s.pin.wf 6 ∧ s.pan.wf ∧ s.pin.len = 4 ∧
    s.pan.len = 12 :=
  ⟨running 0x01#8 (hexText 4 0) (hexText 12 0) [] [] [], by simp only [CharBuf.wf, PanBuf.wf]; decide⟩
theorem witness_EncodeResult_hex : ∃ s : State, s.busy = true ∧ s.pin.wf 6 ∧ s.pan.wf ∧ s.pin.len = 4 ∧
    s.pan.len = 13 ∧ isHex s.pin.ch = false :=
  ⟨running 0x01#8 (hexText 3 0 ++ [0x47#8]) pan16 [] [] [], by simp only [CharBuf.wf, PanBuf.wf]; decide⟩
theorem witness_EncodeResult_ok : ∃ s : State, s.busy = true ∧ s.pin.wf 6 ∧ s.pan.wf ∧ s.pin.len = 6 ∧
    s.pan.len = 13 ∧ isHex s.pin.ch = true ∧ isHex s.pan.win = true :=
  ⟨running 0x01#8 (hexText 6 0) pan16 [] [] [], by simp only [CharBuf.wf, PanBuf.wf]; decide⟩

/-- DECODE's checks one after the other: block length, PAN length, hex, length digit, range, and success with 6. -/
theorem witness_DecodeResult_checks : ([(hexText 15 0, pan16), (hexText 16 0, hexText 12 0),
    (hexText 15 0 ++ [0x47#8], pan16), (hexText 16 0x0A00000000000000, pan16), (hexText 16 0, pan16),
    (hexText 16 0x0700000000000000, pan16), (hexText 16 0x0600000000000000, pan16)].all fun p =>
    let s := running 0x02#8 [] p.2 [] p.1 []
    s.busy && decide (s.a.len ≤ 17 ∧ s.a.ch.length = min s.a.len 16) &&
      decide (s.pan.len ≤ 13 ∧ s.pan.win.length = min s.pan.len 12)) = true := by decide +kernel
theorem witness_DecodeResult_ok : ∃ s : State, s.busy = true ∧ s.a.wf (dataCap s.cfg) ∧ s.pan.wf ∧ s.a.len = 16 ∧
    s.pan.len = 13 ∧ isHex s.a.ch = true ∧ isHex s.pan.win = true ∧
    (nib s.a.ch 1 ^^^ panFieldNib s.pan.win 1).toNat = 6 :=
  ⟨running 0x02#8 [] pan16 [] (hexText 16 0x0600000000000000) [], by simp only [CharBuf.wf, PanBuf.wf]; decide +kernel⟩

theorem witness_EncryptResult_key : ∃ s : State, s.busy = true ∧ s.key.wf 48 ∧ s.a.wf (dataCap s.cfg) ∧
    s.key.len = 49 :=
  ⟨running 0x03#8 [] [] (keyA ++ pan16) pan16 [], by simp only [CharBuf.wf]; decide +kernel⟩
theorem witness_EncryptResult_data : ∃ s t : State, (s.busy = true ∧ s.key.wf 48 ∧ s.a.wf (dataCap s.cfg) ∧
    s.key.len = 48 ∧ s.a.len = 0) ∧ t.busy = true ∧ t.key.wf 48 ∧ t.a.wf (dataCap t.cfg) ∧ t.key.len = 48 ∧
    dataCap t.cfg < t.a.len :=
  ⟨running 0x03#8 [] [] keyA [] [], running 0x03#8 [] [] keyA keyA [], by simp only [CharBuf.wf]; decide +kernel⟩
theorem witness_EncryptResult_hex : ∃ s : State, s.busy = true ∧ s.key.wf 48 ∧ s.a.wf (dataCap s.cfg) ∧
    s.key.len = 48 ∧ s.a.len = 16 ∧ isHex s.a.ch = false :=
  ⟨running 0x03#8 [] [] keyA (hexText 15 0 ++ [0x47#8]) [], by simp only [CharBuf.wf]; decide +kernel⟩
theorem witness_EncryptResult_ok : ∃ s : State, s.busy = true ∧ s.key.wf 48 ∧ s.a.wf (dataCap s.cfg) ∧
    s.key.len = 48 ∧ s.a.len = 32 ∧ s.a.len ≤ dataCap s.cfg ∧ isHex s.key.ch = true ∧ isHex s.a.ch = true :=
  ⟨running 0x03#8 [] [] keyA (hexText 32 0) [] 2, by simp only [CharBuf.wf]; decide +kernel⟩
/-- DECRYPT's hypotheses and clauses are ENCRYPT's. -/
theorem witness_DecryptResult : ∃ s : State, s.busy = true ∧ s.key.wf 48 ∧ s.a.wf (dataCap s.cfg) ∧
    s.key.len = 48 ∧ s.a.len = 240 ∧ s.a.len ≤ dataCap s.cfg ∧ isHex s.key.ch = true ∧ isHex s.a.ch = true :=
  ⟨{ running 0x04#8 [] [] keyA [] [] 15 with a := ⟨240, List.replicate 240 0x46#8⟩ },
   by simp only [CharBuf.wf]; decide +kernel⟩

theorem witness_XorhexResult_cap : ∃ s : State, s.busy = true ∧ s.a.wf (dataCap s.cfg) ∧ s.b.wf (dataCap s.cfg) ∧
    dataCap s.cfg < s.a.len := ⟨running 0x05#8 [] [] [] keyA [] , by simp only [CharBuf.wf]; decide +kernel⟩
theorem witness_XorhexResult_mismatch : ∃ s : State, s.busy = true ∧ s.a.wf (dataCap s.cfg) ∧
    s.b.wf (dataCap s.cfg) ∧ s.a.len = 16 ∧ s.b.len = 0 :=
  ⟨running 0x05#8 [] [] [] pan16 [], by simp only [CharBuf.wf]; decide +kernel⟩
theorem witness_XorhexResult_odd : ∃ s : State, s.busy = true ∧ s.a.wf (dataCap s.cfg) ∧ s.b.wf (dataCap s.cfg) ∧
    s.a.len = 15 ∧ s.b.len = 15 :=
  ⟨running 0x05#8 [] [] [] (hexText 15 0) (hexText 15 0), by simp only [CharBuf.wf]; decide +kernel⟩
theorem witness_XorhexResult_hex : ∃ s : State, s.busy = true ∧ s.a.wf (dataCap s.cfg) ∧ s.b.wf (dataCap s.cfg) ∧
    s.a.len = 2 ∧ s.b.len = 2 ∧ isHex s.b.ch = false :=
  ⟨running 0x05#8 [] [] [] (hexText 2 0) [0x30#8, 0x2F#8], by simp only [CharBuf.wf]; decide +kernel⟩
/-- Two empty strings and two full ones succeed. -/
theorem witness_XorhexResult_ok : ∃ s t : State, (s.busy = true ∧ s.a.wf (dataCap s.cfg) ∧ s.b.wf (dataCap s.cfg) ∧
    s.a.len = 0 ∧ s.b.len = 0) ∧ t.busy = true ∧ t.a.wf (dataCap t.cfg) ∧ t.b.wf (dataCap t.cfg) ∧
    t.a.len = dataCap t.cfg ∧ t.b.len = dataCap t.cfg ∧ isHex t.a.ch = true ∧ isHex t.b.ch = true :=
  ⟨running 0x05#8 [] [] [] [] [], running 0x05#8 [] [] [] pan16 pan16, by simp only [CharBuf.wf]; decide +kernel⟩
theorem witness_IllegalCommandFails : ([0x06#8, 0x0E#8, 0x10#8, 0xFF#8].all fun v =>
    decide (5 < v.toNat) && v != 0x0F#8) = true ∧ State.reset.busy = false ∧ busyState.busy = true := by decide
theorem witness_OperationWaitsUnlessBusy : Instr.encode.isOperation = true ∧
    (Instr.illegal80_FF 0xFF#8).isOperation = true ∧ State.reset.busy = false := by decide

theorem witness_FrameOutsideTheBlock : exec .nop State.reset = .next State.reset ∧ Instr.nop.isRead = false :=
  ⟨rfl, rfl⟩
theorem witness_OperandsWrittenByOwnPushOnly : ∃ t, exec (.pushPin 0x31#8) State.reset = .next t ∧
    t.pin ≠ State.reset.pin := ⟨_, rfl, by decide⟩
theorem witness_OnlyCompletionSetsOutcome : ∃ t, exec .encode busyState = .next t ∧ busyState.done = false ∧
    t.done = true ∧ ¬ t.out <:+ busyState.out := ⟨_, rfl, rfl, rfl, by decide⟩
theorem witness_OnlyCompletionSetsOutcome_err : ∃ t, exec .xorhex (running 0x05#8 [] [] [] pan16 []) = .next t ∧
    (running 0x05#8 [] [] [] pan16 []).err = false ∧ t.err = true := ⟨_, rfl, rfl, by decide⟩
theorem witness_OperandsErasedAtCompletion : (∃ t, exec .encode busyState = .next t ∧ busyState.busy = true ∧
    t.busy = false) ∧ ∃ t, exec (.cmd 0x01#8) State.reset = .next t ∧ State.reset.busy = false ∧ t.busy = true :=
  ⟨⟨_, rfl, rfl, rfl⟩, _, rfl, rfl, rfl⟩
theorem witness_ErrorCodes : ([.encode, .decode, .encrypt, .decrypt, .xorhex, .illegal0E].all fun i =>
    i.isOperation && busyState.busy && nextIs (exec i busyState) fun t => decide (t.errcode ∈ codesOf i)) = true := by
  decide
theorem witness_ErrorLastsUntilNextCommand : (failedWith 0xF#4).Inv ∧ (failedWith 0xF#4).err = true ∧
    (∃ t, exec (.pushA 0x30#8) (failedWith 0xF#4) = .next t) ∧ ¬ endsOutcome (.pushA 0x30#8) ∧
    (∃ t, exec .clear (failedWith 0xF#4) = .next t) ∧ endsOutcome .clear ∧ endsOutcome (.cmd 0x01#8) :=
  ⟨inv_failed, rfl, ⟨_, rfl⟩, by simp [endsOutcome], ⟨_, rfl⟩, by simp [endsOutcome], by simp [endsOutcome]⟩
theorem witness_ErrorLastsUntilNextCommand_reset : ∃ s t, State.Inv s ∧ s.err = true ∧ s.inbox = .reset :: [] ∧
    step s = .next t :=
  ⟨withInbox (failedWith 0xF#4) [.reset], _, by constructor <;> first | decide | (constructor <;> decide), rfl, rfl,
   rfl⟩
theorem witness_OutcomeHeldUntilNextCommand : (doneWith pan16).busy = false ∧ (∃ t,
    exec (.cmd 0x00#8) (doneWith pan16) = .next t) ∧ ¬ endsOutcome (.cmd 0x00#8) ∧ Instr.cmd 0x00#8 ≠ .pop :=
  ⟨rfl, ⟨_, rfl⟩, by simp [endsOutcome], by simp⟩
theorem witness_PhaseTransitions : busyState.Inv ∧ ∃ t, exec .encode busyState = .next t ∧ t.phase = some .done :=
  ⟨inv_running, _, rfl, rfl⟩
theorem witness_ReadsRevealNoOperand : busyState.sameButOperands { busyState with key := pushAll 48 keyA } ∧
    busyState ≠ { busyState with key := pushAll 48 keyA } := by decide +kernel
theorem witness_UnreadBuffersHaveNoInfluence : ∃ s t s' t' : State, s.busy = true ∧ t.busy = true ∧ s.cfg = t.cfg ∧
    exec .encode s = .next s' ∧ exec .encode t = .next t' ∧ s.pin = t.pin ∧ s.pan = t.pan ∧ s.a ≠ t.a :=
  ⟨busyState, { busyState with a := pushAll 16 pan16 }, _, _, rfl, rfl, rfl, rfl, rfl, rfl, rfl, by decide⟩
theorem witness_UnreadBuffersHaveNoInfluence_others : ∃ s t : State, (s.busy = true ∧ t.busy = true ∧ s.cfg = t.cfg) ∧
    (s.a = t.a ∧ s.pan = t.pan ∧ s.key = t.key ∧ s.b = t.b ∧ s.pin ≠ t.pin) ∧
    [Instr.decode, .encrypt, .decrypt, .xorhex].all fun i =>
      nextIs (exec i s) fun _ => nextIs (exec i t) fun _ => true :=
  ⟨busyState, { busyState with pin := pushAll 6 (hexText 5 0) }, by decide⟩

theorem witness_CompletionIndependentOfHostSteps : ∃ (s : State) (ts : List Transaction), s.Inv ∧ s.busy = true ∧
    s.inbox = ts.map Event.port ++ .core :: [] ∧ ts.length = 3 :=
  ⟨withInbox busyState [.port (.read 0x1#4), .port (.write 0x8#4 0x39#8), .port (.write 0x0#4 0x0F#8), .core],
   [.read 0x1#4, .write 0x8#4 0x39#8, .write 0x0#4 0x0F#8],
   by constructor <;> first | decide | (constructor <;> decide), rfl, rfl, rfl⟩
theorem witness_CoreTurnCompletesCommand : busyState.Inv ∧ busyState.busy = true ∧ busyState.inbox = [] :=
  ⟨inv_running, rfl, rfl⟩
theorem witness_CallReturnsPureFunction : ([.encode (hexText 7 0) pan16, .decode pan16 [], .encrypt keyA pan16,
    .decrypt [] keyA, .xorhex [0x47#8] pan16].all fun c : Call =>
    let s := withInbox State.reset c.events
    s.ready && !s.busy && decide s.operandsEmpty && s.inbox == c.events ++ []) = true := by decide +kernel
theorem witness_PopallReturnsResultInOrder : ∃ s : State, s.ready = true ∧ 15 < s.out.length ∧
    s.inbox = popallEvents s.out.length ++ [.core] :=
  ⟨withInbox (doneWith pan16) (popallEvents 16 ++ [.core]), by decide⟩

theorem witness_PinBlockRoundTrip : (hexText 4 0x1234).length = 4 ∧ 13 ≤ pan16.length ∧
    (∀ c ∈ hexText 4 0x1234, isDecimal c) ∧ (∀ c ∈ lastPanDigits pan16, isDecimal c) ∧
    isHex [0x61#8, 0x46#8, 0x30#8, 0x31#8, 0x32#8, 0x33#8] = true := by unfold isDecimal; decide
theorem witness_BlockSizeInvariant : encodeStr (hexText 4 0x1234) pan16 = .ok (hexText 16 0x041262876FEDCBA9) ∧
    decodeStr (hexText 16 0x041262876FEDCBA9) pan16 = .ok (hexText 4 0x1234) := by decide +kernel
theorem witness_ControlNibbleNotExamined : encodeStr (hexText 4 0x1234) pan16 = .ok (hexText 16 0x041262876FEDCBA9) ∧
    (hexVal 0x46#8).isSome = true ∧ (hexVal 0x30#8).isSome = true := by decide +kernel
theorem witness_LengthRangesDiffer : encodeStr (hexText 6 0) pan16 = .ok (hexText 16 0x060056786FEDCBA9) ∧
    decodeStr (hexText 16 0x0112345FFFFFFFFF) (hexText 13 0) = .ok (hexText 1 1) ∧ (hexText 1 1).length < 4 := by
  decide +kernel
theorem witness_EcbBlocksIndependent : ([] : List Byte).length % 8 = 0 ∧
    (List.replicate 8 0xA5#8).length % 8 = 0 ∧ (List.replicate 8 0xA5#8).length = 8 := by decide
theorem witness_ParityBitsIgnored : ∀ i, i < 64 → i % 8 ≠ 7 →
    (0x0123456789ABCDEF#64).getMsbD i = (0x0022446688AACCEE#64).getMsbD i := by decide
theorem witness_CipherRoundTrip : (∃ c, encryptStr 16 keyA (hexText 16 0x041262876FEDCBA9) = .ok c) ∧
    (hexText 47 0).length ≠ 48 := ⟨⟨_, rfl⟩, by decide⟩
theorem witness_XorhexProperties : xorHexStr 16 (hexText 2 0xFF) (hexText 2 0x0F) = .ok (hexText 2 0xF0) ∧
    encodeStr (hexText 4 0x1234) pan16 = .ok (hexText 16 0x041262876FEDCBA9) ∧
    nibbles (hexText 4 0x1234) = some [0x1#4, 0x2#4, 0x3#4, 0x4#4] ∧
    (nibbles (lastPanDigits pan16)).isSome = true := by decide +kernel
theorem witness_HexConvertersInverse : hexVal 0x66#8 = some 0xF#4 ∧
    hexDecode [0x66#8, 0x30#8] = some [0xF0#8] := by decide
theorem witness_CipherFailureNeverRaised : busyState.errcode ≠ 0x9#4 ∧ (∃ t, exec .encode busyState = .next t) ∧
    ∃ t, step busyState = .next t := ⟨by decide, ⟨_, rfl⟩, _, rfl⟩

end Sys2Proof.Tests
end

namespace Sys2Proof.Machine

/-! ## Results of the core

What each operation's function answers, which errors it can be, and that an output fits in OUT (10_state R27, R32). -/

/-! ### Result characters and lengths of the converters -/

/-- HexChar gives a digit or an upper-case letter (R79). -/
theorem isResultChar_hexChar (n : Nibble) : isResultChar (hexChar n) := by
  have hn := n.isLt
  unfold hexChar isResultChar
  split <;> simp only [BitVec.toNat_ofNat] <;> omega

theorem isResultChar_of_mem_hexStr {ns : List Nibble} {c : Byte} (h : c ∈ hexStr ns) : isResultChar c := by
  obtain ⟨n, -, rfl⟩ := List.mem_map.1 h
  exact isResultChar_hexChar n

theorem isResultChar_of_mem_hexEncode {bs : List Byte} {c : Byte} (h : c ∈ hexEncode bs) : isResultChar c := by
  induction bs with
  | nil => simp [hexEncode] at h
  | cons b bs ih =>
    rcases List.mem_cons.1 h with rfl | h
    · exact isResultChar_hexChar _
    · rcases List.mem_cons.1 h with rfl | h
      · exact isResultChar_hexChar _
      · exact ih h

/-- The bytes of a string that starts with `hi` and `lo` are those characters' byte and the rest's (R81). -/
theorem hexDecode_cons_cons_eq_some {hi lo : Byte} {s : Str} {bs : List Byte} :
    hexDecode (hi :: lo :: s) = some bs ↔ ∃ h l m, hexVal hi = some h ∧ hexVal lo = some l ∧
      hexDecode s = some m ∧ bs = BitVec.ofNat 8 (16 * h.toNat + l.toNat) :: m := by
  simp only [hexDecode]
  cases hexVal hi <;> cases hexVal lo <;> cases hexDecode s <;> simp [eq_comm]

/-- HexDecode takes two characters for each byte (R81). -/
theorem length_of_hexDecode_eq_some : ∀ {s : Str} {bs : List Byte}, hexDecode s = some bs → s.length = 2 * bs.length
  | [], bs, h => by
    obtain rfl : [] = bs := Option.some.inj h
    rfl
  | [_], _, h => nomatch h
  | _ :: _ :: s, _, h => by
    obtain ⟨_, _, m, -, -, hm, rfl⟩ := hexDecode_cons_cons_eq_some.1 h
    simp [length_of_hexDecode_eq_some hm]; omega

/-- ECB gives no more bytes than it takes (R144). -/
theorem ecbEnc_length_le (k : Keys) (d : List Byte) : (ecbEnc k d).length ≤ d.length := by
  simpa [ecbEnc] using Nat.mul_div_le d.length 8

/-- The same of deciphering (R144). -/
theorem ecbDec_length_le (k : Keys) (d : List Byte) : (ecbDec k d).length ≤ d.length := by
  simpa [ecbDec] using Nat.mul_div_le d.length 8

@[simp] theorem panField_length (win : List Nibble) : (panField win).length = 4 + win.length := by
  simp [panField]; omega

/-! ### What the core's functions answer -/

/-- ENCODE answers a block of the two fields, after its checks, or one of its three errors (R122). -/
theorem encodeFn_cases (pinLen : Nat) (pin : Str) (panLen : Nat) (win : Str) :
    (∃ e ∈ [ErrorKind.invalidPinLength, .invalidPanLength, .invalidEncoding],
      encodeFn pinLen pin panLen win = .err e) ∨
    (4 ≤ pinLen ∧ pinLen ≤ 6) ∧ 13 ≤ panLen ∧ ∃ f g, nibbles pin = some f ∧ nibbles win = some g ∧
      encodeFn pinLen pin panLen win = .ok (hexStr (xorNibbles (pinField f) (panField g))) := by
  simp only [encodeFn, pinMin, pinMax, panMin]
  split
  · simp
  · split
    · simp
    · split
      · rename_i f g hf hg
        exact .inr ⟨by omega, by omega, f, g, hf, hg, rfl⟩
      · simp

/-- The PIN read out of a PIN field is the error of a length digit or 1 to 6 characters (R123). -/
theorem pinOfField_cases (f : List Nibble) :
    (∃ e ∈ [ErrorKind.invalidLengthDigit, .pinOutOfRange], pinOfField f = .err e) ∨
    ∃ l, l = (f.getD 1 0x0#4).toNat ∧ 1 ≤ l ∧ l ≤ 6 ∧ pinOfField f = .ok (hexStr ((f.drop 2).take l)) := by
  simp only [pinOfField, decLMin, decLMax]
  split
  · simp
  · split
    · simp
    · exact .inr ⟨_, rfl, by omega, by omega, rfl⟩

/-- DECODE answers the PIN of the recovered field, after its checks, or one of its three own errors (R123). -/
theorem decodeFn_cases (blkLen : Nat) (blk : Str) (panLen : Nat) (win : Str) :
    (∃ e ∈ [ErrorKind.invalidBlockLength, .invalidPanLength, .invalidEncoding],
      decodeFn blkLen blk panLen win = .err e) ∨
    blkLen = 16 ∧ 13 ≤ panLen ∧ ∃ b g, nibbles blk = some b ∧ nibbles win = some g ∧
      decodeFn blkLen blk panLen win = pinOfField (xorNibbles b (panField g)) := by
  simp only [decodeFn, fieldHex, panMin]
  split
  · simp
  · split
    · simp
    · split
      · rename_i b g hb hg
        exact .inr ⟨by omega, by omega, b, g, hb, hg, rfl⟩
      · simp

/-- ENCRYPT and DECRYPT answer the ciphered blocks, after their checks, or one of their three errors (R141, R142). -/
theorem cipherFn_cases (f : Keys → List Byte → List Byte) (cap keyLen : Nat) (key : Str) (dataLen : Nat)
    (data : Str) :
    (∃ e ∈ [ErrorKind.invalidKeyLength, .invalidBlockLength, .invalidEncoding],
      cipherFn f cap keyLen key dataLen data = .err e) ∨
    keyLen = 48 ∧ (dataLen ≠ 0 ∧ dataLen % 16 = 0 ∧ dataLen ≤ cap) ∧
      ∃ kb d, hexDecode key = some kb ∧ hexDecode data = some d ∧
        cipherFn f cap keyLen key dataLen data = .ok (hexEncode (f (splitKey kb) d)) := by
  simp only [cipherFn, keyHex, fieldHex]
  split
  · simp
  · split
    · simp
    · split
      · rename_i kb d hk hd
        exact .inr ⟨by omega, by omega, kb, d, hk, hd, rfl⟩
      · simp

/-- XORHEX answers the XOR of its operands, after its checks, or one of its three errors (R171). -/
theorem xorHexFn_cases (cap aLen : Nat) (a : Str) (bLen : Nat) (b : Str) :
    (∃ e ∈ [ErrorKind.invalidBlockLength, .lengthMismatch, .invalidEncoding],
      xorHexFn cap aLen a bLen b = .err e) ∨
    (aLen ≤ cap ∧ aLen = bLen ∧ aLen % 2 = 0) ∧ ∃ x y, nibbles a = some x ∧ nibbles b = some y ∧
      xorHexFn cap aLen a bLen b = .ok (hexStr (xorNibbles x y)) := by
  unfold xorHexFn
  split
  · simp
  · split
    · simp
    · split
      · simp
      · split
        · rename_i x y hx hy
          exact .inr ⟨by omega, x, y, hx, hy, rfl⟩
        · simp

/-! ### CipherFailure is no result (R147) -/

theorem encodeFn_ne_cipherFailure (pinLen : Nat) (pin : Str) (panLen : Nat) (win : Str) :
    encodeFn pinLen pin panLen win ≠ .err .cipherFailure := by
  rcases encodeFn_cases pinLen pin panLen win with ⟨e, he, h⟩ | ⟨-, -, f, g, -, -, h⟩ <;> rw [h]
  · rintro ⟨⟩; simp at he
  · simp

theorem decodeFn_ne_cipherFailure (blkLen : Nat) (blk : Str) (panLen : Nat) (win : Str) :
    decodeFn blkLen blk panLen win ≠ .err .cipherFailure := by
  rcases decodeFn_cases blkLen blk panLen win with ⟨e, he, h⟩ | ⟨-, -, b, g, -, -, h⟩ <;> rw [h]
  · rintro ⟨⟩; simp at he
  · rcases pinOfField_cases (xorNibbles b (panField g)) with ⟨e, he, h⟩ | ⟨l, -, -, -, h⟩ <;> rw [h]
    · rintro ⟨⟩; simp at he
    · simp

theorem cipherFn_ne_cipherFailure (f : Keys → List Byte → List Byte) (cap keyLen : Nat) (key : Str)
    (dataLen : Nat) (data : Str) : cipherFn f cap keyLen key dataLen data ≠ .err .cipherFailure := by
  rcases cipherFn_cases f cap keyLen key dataLen data with ⟨e, he, h⟩ | ⟨-, -, kb, d, -, -, h⟩ <;> rw [h]
  · rintro ⟨⟩; simp at he
  · simp

theorem xorHexFn_ne_cipherFailure (cap aLen : Nat) (a : Str) (bLen : Nat) (b : Str) :
    xorHexFn cap aLen a bLen b ≠ .err .cipherFailure := by
  rcases xorHexFn_cases cap aLen a bLen b with ⟨e, he, h⟩ | ⟨-, x, y, -, -, h⟩ <;> rw [h]
  · rintro ⟨⟩; simp at he
  · simp

/-- The result the core completes with is that of one of the five operations, or IllegalCommand (R116, R117). -/
theorem coreResult_cases {i : Instr} {s : State} {r : Result} (h : coreResult i s = some r) :
    (i = .encode ∧ r = s.encodeResult) ∨ (i = .decode ∧ r = s.decodeResult) ∨
    (i = .encrypt ∧ r = s.encryptResult) ∨ (i = .decrypt ∧ r = s.decryptResult) ∨
    (i = .xorhex ∧ r = s.xorHexResult) ∨ r = .err .illegalCommand := by
  cases i <;> simp only [coreResult, Option.some.injEq, reduceCtorEq] at h <;> simp [h.symm]

/-- No instruction completes with CipherFailure, in any state (R147, R209). -/
theorem coreResult_ne_cipherFailure {i : Instr} {s : State} {r : Result} (h : coreResult i s = some r) :
    r ≠ .err .cipherFailure := by
  rcases coreResult_cases h with ⟨-, rfl⟩ | ⟨-, rfl⟩ | ⟨-, rfl⟩ | ⟨-, rfl⟩ | ⟨-, rfl⟩ | rfl
  · exact encodeFn_ne_cipherFailure _ _ _ _
  · exact decodeFn_ne_cipherFailure _ _ _ _
  · exact cipherFn_ne_cipherFailure _ _ _ _ _ _
  · exact cipherFn_ne_cipherFailure _ _ _ _ _ _
  · exact xorHexFn_ne_cipherFailure _ _ _ _ _
  · simp

/-! ### Results fit in OUT (R27) -/

/-- The output of a result has at most `cap` characters, all of them result characters (R27, R110). -/
def Result.Fits (cap : Nat) (r : Result) : Prop := r.out.length ≤ cap ∧ ∀ c ∈ r.out, isResultChar c

theorem Result.fits_err (cap : Nat) (e : ErrorKind) : (Result.err e).Fits cap := by
  simp [Result.Fits, Result.out]

theorem Result.fits_hexStr {cap : Nat} {ns : List Nibble} (h : ns.length ≤ cap) :
    (Result.ok (hexStr ns)).Fits cap :=
  ⟨by simpa [Result.out] using h, fun _ hc => isResultChar_of_mem_hexStr hc⟩

/-- ENCODE's block has 16 characters at most when the PAN window has 12. -/
theorem encodeFn_fits {cap : Nat} (pinLen : Nat) (pin : Str) (panLen : Nat) {win : Str} (hcap : 16 ≤ cap)
    (hwin : win.length ≤ 12) : (encodeFn pinLen pin panLen win).Fits cap := by
  rcases encodeFn_cases pinLen pin panLen win with ⟨e, -, h⟩ | ⟨-, -, f, g, -, hg, h⟩ <;> rw [h]
  · exact Result.fits_err cap e
  · have := nibbles_length hg
    exact Result.fits_hexStr (by simp; omega)

theorem pinOfField_fits {cap : Nat} (f : List Nibble) (hcap : 6 ≤ cap) : (pinOfField f).Fits cap := by
  rcases pinOfField_cases f with ⟨e, -, h⟩ | ⟨l, -, -, hl, h⟩ <;> rw [h]
  · exact Result.fits_err cap e
  · exact Result.fits_hexStr (by simp; omega)

theorem decodeFn_fits {cap : Nat} (blkLen : Nat) (blk : Str) (panLen : Nat) (win : Str) (hcap : 6 ≤ cap) :
    (decodeFn blkLen blk panLen win).Fits cap := by
  rcases decodeFn_cases blkLen blk panLen win with ⟨e, -, h⟩ | ⟨-, -, b, g, -, -, h⟩ <;> rw [h]
  · exact Result.fits_err cap e
  · exact pinOfField_fits _ hcap

/-- A cipher that does not lengthen its data gives no more characters than the data has. -/
theorem cipherFn_fits {f : Keys → List Byte → List Byte} {cap : Nat} (cap' keyLen : Nat) (key : Str)
    (dataLen : Nat) {data : Str} (hf : ∀ k d, (f k d).length ≤ d.length) (hdata : data.length ≤ cap) :
    (cipherFn f cap' keyLen key dataLen data).Fits cap := by
  rcases cipherFn_cases f cap' keyLen key dataLen data with ⟨e, -, h⟩ | ⟨-, -, kb, d, -, hd, h⟩ <;> rw [h]
  · exact Result.fits_err cap e
  · have hlen : (hexEncode (f (splitKey kb) d)).length ≤ cap := by
      have := hf (splitKey kb) d
      have := length_of_hexDecode_eq_some hd
      simp only [hexEncode_length]; omega
    exact ⟨hlen, fun _ hc => isResultChar_of_mem_hexEncode hc⟩

theorem xorHexFn_fits {cap : Nat} (cap' aLen : Nat) {a : Str} (bLen : Nat) (b : Str) (ha : a.length ≤ cap) :
    (xorHexFn cap' aLen a bLen b).Fits cap := by
  rcases xorHexFn_cases cap' aLen a bLen b with ⟨e, -, h⟩ | ⟨-, x, y, hx, -, h⟩ <;> rw [h]
  · exact Result.fits_err cap e
  · have := nibbles_length hx
    exact Result.fits_hexStr (by simp; omega)

theorem CharBuf.wf.ch_length_le {cap : Nat} {x : CharBuf} (h : x.wf cap) : x.ch.length ≤ cap :=
  h.2.trans_le (min_le_right _ _)

theorem PanBuf.wf.win_length_le {x : PanBuf} (h : x.wf) : x.win.length ≤ 12 := h.2.trans_le (min_le_right _ _)

/-- Every result of the core fits in OUT when the operand buffers are as their pushes leave them (R27). -/
theorem coreResult_fits {i : Instr} {s : State} {r : Result} (hpan : s.pan.wf) (ha : s.a.wf (dataCap s.cfg))
    (h : coreResult i s = some r) : r.Fits (dataCap s.cfg) := by
  have hcap := (dataCap_bounds s.cfg).1
  rcases coreResult_cases h with ⟨-, rfl⟩ | ⟨-, rfl⟩ | ⟨-, rfl⟩ | ⟨-, rfl⟩ | ⟨-, rfl⟩ | rfl
  · exact encodeFn_fits _ _ _ hcap hpan.win_length_le
  · exact decodeFn_fits _ _ _ _ (by omega)
  · exact cipherFn_fits _ _ _ _ ecbEnc_length_le ha.ch_length_le
  · exact cipherFn_fits _ _ _ _ ecbDec_length_le ha.ch_length_le
  · exact xorHexFn_fits _ _ _ _ ha.ch_length_le
  · exact Result.fits_err _ _

/-! ### The code of a result (R32, R200) -/

theorem ErrorKind.code_ne_zero (e : ErrorKind) : e.code ≠ 0x0#4 := by cases e <;> decide

/-- The code of every kind but CipherFailure is a legal ERRCODE (R32). -/
theorem ErrorKind.legalErrcode_code {e : ErrorKind} (h : e ≠ .cipherFailure) : legalErrcode e.code := by
  revert h; cases e <;> decide

/-- ERRCODE is 0 exactly after a success (R115). -/
theorem Result.code_eq_zero_iff (r : Result) : r.code = 0x0#4 ↔ r.isErr = false := by
  cases r with
  | ok o => simp [Result.code, Result.isErr]
  | err e => simp [Result.code, Result.isErr, e.code_ne_zero]

theorem Result.legalErrcode_code {r : Result} (h : r ≠ .err .cipherFailure) : legalErrcode r.code := by
  cases r with
  | ok o => exact .inl (Nat.zero_le 8)
  | err e => exact ErrorKind.legalErrcode_code (by simpa using h)

theorem Result.isErr_eq_false_of_out_ne_nil {r : Result} (h : r.out ≠ []) : r.isErr = false := by
  cases r with
  | ok o => rfl
  | err e => exact absurd rfl h

/-! ## The invariant -/

/-! ### The invariant over each operation of the state -/

section
variable {s : State} (c : Byte)

theorem State.Inv.pushPin (h : s.Inv) : (s.pushPin c).Inv := { h with pin := CharBuf.push_wf c h.pin }

theorem State.Inv.pushPan (h : s.Inv) : (s.pushPan c).Inv := { h with pan := PanBuf.push_wf c h.pan }

theorem State.Inv.pushKey (h : s.Inv) : (s.pushKey c).Inv := { h with key := CharBuf.push_wf c h.key }

theorem State.Inv.pushA (h : s.Inv) : (s.pushA c).Inv := { h with a := CharBuf.push_wf c h.a }

theorem State.Inv.pushB (h : s.Inv) : (s.pushB c).Inv := { h with b := CharBuf.push_wf c h.b }

theorem State.Inv.answer (h : s.Inv) : (s.answer c).Inv := { h with }

theorem State.Inv.setInbox (l : List Event) (h : s.Inv) : (s.setInbox l).Inv := { h with }

theorem State.Inv.popOut (h : s.Inv) : s.popOut.Inv :=
  { h with
    outCap := by simpa using h.outCap.trans' (Nat.sub_le _ _)
    outChars := fun c hc => h.outChars c (List.mem_of_mem_tail hc)
    outDone := fun ho => h.outDone fun he => ho (by simp [he]) }

/-- `Start(v)` for a byte that starts a command (R111, R114). -/
theorem State.Inv.start {v : Byte} (h0 : v ≠ 0x00#8) (hF : v ≠ 0x0F#8) (h : s.Inv) : (s.start v).Inv :=
  { h with
    outCap := Nat.zero_le _
    outChars := by simp
    phase := by simp
    errDone := by simp
    errcodeErr := by simp
    errcodeLegal := .inl (Nat.zero_le 8)
    outDone := by simp
    cmdregIdle := by simp
    cmdregBusy := fun _ => ⟨h0, hF⟩ }

/-- A completion needs a result that fits in OUT and is not CipherFailure (R115). -/
theorem State.Inv.complete {r : Result} (hfit : r.Fits (dataCap s.cfg)) (hne : r ≠ .err .cipherFailure)
    (h : s.Inv) : (s.complete r).Inv where
  ready := h.ready
  pin := CharBuf.empty_wf _
  pan := PanBuf.empty_wf
  key := CharBuf.empty_wf _
  a := CharBuf.empty_wf _
  b := CharBuf.empty_wf _
  outCap := hfit.1
  outChars := hfit.2
  phase := by simp
  errDone := by simp
  errcodeErr := r.code_eq_zero_iff
  errcodeLegal := Result.legalErrcode_code hne
  outDone := fun ho => ⟨rfl, Result.isErr_eq_false_of_out_ne_nil ho⟩
  cmdregIdle := by simp
  cmdregBusy := by simp

theorem State.Inv.raise_illegalCommand (h : s.Inv) : (s.raise .illegalCommand).Inv :=
  h.complete (Result.fits_err _ _) (by simp)

/-- A reset meets the invariant from any state whatever (R231, R233). -/
theorem State.applyReset_inv (s : State) : s.applyReset.Inv where
  ready := rfl
  pin := CharBuf.empty_wf _
  pan := PanBuf.empty_wf
  key := CharBuf.empty_wf _
  a := CharBuf.empty_wf _
  b := CharBuf.empty_wf _
  outCap := Nat.zero_le _
  outChars := by simp
  phase := by simp
  errDone := by simp
  errcodeErr := by simp
  errcodeLegal := .inl (Nat.zero_le 8)
  outDone := by simp
  cmdregIdle := by simp
  cmdregBusy := by simp

/-- After a first reset CLEAR and a reset have one effect (R113, R231). -/
theorem State.clear_eq_applyReset (h : s.ready = true) : s.clear = s.applyReset := by
  have e : s.clear = { s.applyReset with ready := s.ready } := rfl
  rw [e, h]; rfl

theorem State.Inv.clear (h : s.Inv) : s.clear.Inv := State.clear_eq_applyReset h.ready ▸ s.applyReset_inv

end

/-! ### The invariant over instructions and steps -/

/-- Every instruction keeps the invariant. -/
theorem State.Inv.exec {i : Instr} {s t : State} (h : s.Inv) (he : exec i s = .next t) : t.Inv := by
  rcases exec_cases he with (rfl | ⟨-, v, rfl⟩ | ⟨-, rfl⟩) | ⟨-, hw⟩ | ⟨-, r, hr, rfl⟩
  · exact h
  · exact h.answer v
  · exact h.popOut
  · rcases hw with ⟨v, -, rfl⟩ | ⟨v, -, rfl⟩ | ⟨v, -, rfl⟩ | ⟨v, -, rfl⟩ | ⟨v, -, rfl⟩ | ⟨-, rfl⟩ |
      ⟨v, -, h0, hF, rfl⟩
    · exact h.pushPin v
    · exact h.pushPan v
    · exact h.pushKey v
    · exact h.pushA v
    · exact h.pushB v
    · exact h.clear
    · exact h.start h0 hF
  · exact h.complete (coreResult_fits h.pan h.a hr) (coreResult_ne_cipherFailure hr)

/-- Whatever the core's turn does keeps the invariant. -/
theorem State.Inv.coreTurn {s t : State} (h : s.Inv) (ht : coreTurn s = .next t) : t.Inv := by
  rcases coreTurn_cases s with ⟨-, e⟩ | ⟨-, -, e⟩ | ⟨-, -, e⟩ <;> rw [e] at ht
  · cases ht; exact h
  · cases ht; exact h.raise_illegalCommand
  · exact h.exec ht

/-- After a first reset a host transaction runs its instruction (R101). -/
theorem takeEvent_port_of_ready {s : State} (t : Transaction) (h : s.ready = true) :
    takeEvent (.port t) s = exec (decodePort t) s := whenReady_of_ready _ h

/-- After a first reset a step of the core is its turn (R115). -/
theorem takeEvent_core_of_ready {s : State} (h : s.ready = true) : takeEvent .core s = coreTurn s :=
  whenReady_of_ready _ h

/-- After a first reset, with no step to come, the core has its turn. -/
theorem step_of_ready_of_nil {s : State} (h : s.ready = true) (hi : s.inbox = []) : step s = coreTurn s :=
  (step_of_nil hi).trans (whenReady_of_ready _ h)

theorem State.Inv.takeEvent {e : Event} {s t : State} (h : s.Inv) (ht : takeEvent e s = .next t) : t.Inv := by
  cases e with
  | port tr => rw [takeEvent_port_of_ready tr h.ready] at ht; exact h.exec ht
  | core => rw [takeEvent_core_of_ready h.ready] at ht; exact h.coreTurn ht
  | reset => cases ht; exact s.applyReset_inv

/-- Settles O10: with an empty inbox the core has its turn, and otherwise the first event is taken. -/
theorem stepKeepsInvariant : Obligations.StepKeepsInvariant := by
  intro s t h ht
  cases hi : s.inbox with
  | nil => rw [step_of_ready_of_nil h.ready hi] at ht; exact h.coreTurn ht
  | cons e rest => rw [step_of_cons hi] at ht; exact (h.setInbox rest).takeEvent ht

/-- Settles O9: the reset state is a reset of itself. -/
theorem resetMeetsInvariant : Obligations.ResetMeetsInvariant := State.reset.applyReset_inv

end Sys2Proof.Machine

namespace Sys2Proof.Machine
open Sys2Proof.Statements

/-! ## Buffers, frames, phases and pins -/

/-! ### Buffers after a string of pushes -/

theorem pushAll_append_singleton (cap : Nat) (x : Str) (c : Byte) :
    pushAll cap (x ++ [c]) = (pushAll cap x).push cap c := by simp [pushAll]

theorem pushAllPan_append_singleton (x : Str) (c : Byte) : pushAllPan (x ++ [c]) = (pushAllPan x).push c := by
  simp [pushAllPan]

/-- A capped buffer after a string: its length up to one above the capacity, and its first characters (R28). -/
theorem pushAll_eq (cap : Nat) (x : Str) : pushAll cap x = ⟨min x.length (cap + 1), x.take cap⟩ := by
  induction x using List.reverseRecOn with
  | nil => simp [pushAll, CharBuf.empty]
  | append_singleton x c ih =>
    rw [pushAll_append_singleton, ih]
    rcases CharBuf.push_cases cap c ⟨min x.length (cap + 1), x.take cap⟩ with ⟨hl, e⟩ | ⟨hl, e⟩ | ⟨hl, e⟩ <;>
      simp only at hl <;> rw [e, CharBuf.mk.injEq]
    · have hx : x.length < cap := by omega
      simp [List.take_of_length_le, Nat.succ_le_of_lt hx, hx.le, Nat.le_succ_of_le]
    · have hx : x.length = cap := by omega
      simp [hx]
    · have hx : cap < x.length := by omega
      simp [List.take_append_of_le_length, hx.le]; omega

/-- PAN after a string: its length up to 13, and its last 12 characters (R29). -/
theorem pushAllPan_eq (x : Str) : pushAllPan x = ⟨min x.length 13, x.drop (x.length - 12)⟩ := by
  induction x using List.reverseRecOn with
  | nil => rfl
  | append_singleton x c ih =>
    rw [pushAllPan_append_singleton, ih, PanBuf.push, PanBuf.mk.injEq]
    constructor
    · simp only [panMin, List.length_append, List.length_singleton]; split <;> omega
    · simp only [panDigits, List.length_drop, List.length_append, List.length_singleton]
      split
      · have hx : x.length + 1 - 12 = 0 := by omega
        have hx' : x.length - 12 = 0 := by omega
        simp [hx, hx']
      · have hx : x.length + 1 - 12 = x.length - 12 + 1 := by omega
        rw [hx, List.drop_append_of_le_length (by omega), List.drop_drop]

/-- Settles O21, each half by induction on the string, one push at its end. -/
theorem pushedStringSummaries : Obligations.PushedStringSummaries := ⟨pushAll_eq, pushAllPan_eq⟩

/-! ### Frames over every instruction -/

/-- Settles O33: no update touches these fields but the reads, which set the byte returned. -/
theorem frameOutsideTheBlock : Obligations.FrameOutsideTheBlock := by
  intro i s t h
  rcases exec_cases h with (rfl | ⟨hread, v, rfl⟩ | ⟨rfl, rfl⟩) | ⟨-, hw⟩ | ⟨-, r, -, rfl⟩
  · simp
  · simp [hread]
  · simp [Instr.isRead]
  · rcases hw with ⟨v, -, rfl⟩ | ⟨v, -, rfl⟩ | ⟨v, -, rfl⟩ | ⟨v, -, rfl⟩ | ⟨v, -, rfl⟩ | ⟨-, rfl⟩ |
      ⟨v, -, -, -, rfl⟩ <;> simp
  · simp

/-- Settles O34: a push writes its own buffer, CLEAR and a completion empty all five, all else leaves them. -/
theorem operandsWrittenByOwnPushOnly : Obligations.OperandsWrittenByOwnPushOnly := by
  intro i s t h
  rcases exec_cases h with (rfl | ⟨-, v, rfl⟩ | ⟨-, rfl⟩) | ⟨-, hw⟩ | ⟨-, r, -, rfl⟩
  · simp
  · simp
  · simp
  · rcases hw with ⟨v, rfl, rfl⟩ | ⟨v, rfl, rfl⟩ | ⟨v, rfl, rfl⟩ | ⟨v, rfl, rfl⟩ | ⟨v, rfl, rfl⟩ | ⟨-, rfl⟩ |
      ⟨v, -, -, -, rfl⟩ <;> simp
  · simp

/-! ### Phases -/

theorem State.complete_operandsEmpty (s : State) (r : Result) : (s.complete r).operandsEmpty :=
  ⟨rfl, rfl, rfl, rfl, rfl⟩

/-- Settles O36: BUSY falls in a completion alone and rises in a start alone. -/
theorem operandsErasedAtCompletion : Obligations.OperandsErasedAtCompletion := by
  intro i s t h
  rcases exec_cases h with (rfl | ⟨-, v, rfl⟩ | ⟨-, rfl⟩) | ⟨hb, hw⟩ | ⟨hb, r, -, rfl⟩
  · simp +contextual
  · simp +contextual
  · simp +contextual
  · rcases hw with ⟨v, -, rfl⟩ | ⟨v, -, rfl⟩ | ⟨v, -, rfl⟩ | ⟨v, -, rfl⟩ | ⟨v, -, rfl⟩ | ⟨-, rfl⟩ |
      ⟨v, -, -, -, rfl⟩ <;> simp [hb]
  · exact ⟨fun _ _ => ⟨s.complete_operandsEmpty r, rfl, rfl⟩, by simp [hb]⟩

/-- A state of the invariant with BUSY = 1 is in phase BUSY (R30). -/
theorem State.Inv.phase_of_busy {s : State} (h : s.Inv) (hb : s.busy = true) : s.phase = some .busy := by
  have hd : s.done = false := by simpa [hb] using h.phase
  simp [State.phase, hb, hd]

/-- Settles O39: of what an instruction can do, only CLEAR, a start and a completion touch BUSY or DONE. -/
theorem phaseTransitions : Obligations.PhaseTransitions := by
  intro i s t hinv h
  rcases exec_cases h with (rfl | ⟨-, v, rfl⟩ | ⟨-, rfl⟩) | ⟨hb, hw⟩ | ⟨hb, r, hr, rfl⟩
  · exact .inl rfl
  · exact .inl rfl
  · exact .inl rfl
  · rcases hw with ⟨v, -, rfl⟩ | ⟨v, -, rfl⟩ | ⟨v, -, rfl⟩ | ⟨v, -, rfl⟩ | ⟨v, -, rfl⟩ | ⟨hi, rfl⟩ |
      ⟨v, hi, h0, hF, rfl⟩
    · exact .inl rfl
    · exact .inl rfl
    · exact .inl rfl
    · exact .inl rfl
    · exact .inl rfl
    · exact .inr (.inr (.inr ⟨hb, rfl, hi⟩))
    · exact .inr (.inl ⟨hb, rfl, v, hi, h0, hF⟩)
  · exact .inr (.inr (.inl ⟨hinv.phase_of_busy hb, rfl, isOperation_of_coreResult hr⟩))

/-! ### STATUS bits -/

/-- Bits 0, 1 and 2 of the STATUS byte are BUSY, DONE and ERR (R31). -/
theorem State.statusByte_getLsbD (s : State) : s.statusByte.getLsbD 0 = s.busy ∧ s.statusByte.getLsbD 1 = s.done ∧
    s.statusByte.getLsbD 2 = s.err := by
  unfold State.statusByte
  generalize s.busy = b, s.done = d, s.err = e
  revert b d e
  decide

/-- Settles O60: the pins are the flags, and each flag is its bit of STATUS. -/
theorem pinsMirrorStatus : Obligations.PinsMirrorStatus := by
  intro s
  obtain ⟨hbusy, hdone, herr⟩ := s.statusByte_getLsbD
  exact ⟨hbusy.symm, hdone.symm, herr.symm⟩

end Sys2Proof.Machine

namespace Sys2Proof.Machine
open Sys2Proof.Statements

/-! ## The port

What a decoded transaction does to the state, said once for the reads and once for the writes (R51, R73). -/

/-! ### Reads -/

/-- The effect of `HostRead(addr)`: the byte of the address map is returned, and a read of OUT removes its front
character (R51, R110). -/
def State.hostRead (addr : BitVec 4) (s : State) : State :=
  { s with rdata := s.portView addr, out := if addr = 0x4#4 then s.out.tail else s.out }

theorem State.portView_eq_zero (s : State) {addr : BitVec 4} (h : addr.toNat = 0 ∨ 5 ≤ addr.toNat) :
    s.portView addr = 0x00#8 := by
  have h1 : addr ≠ 0x1#4 := by bv_omega
  have h2 : addr ≠ 0x2#4 := by bv_omega
  have h3 : addr ≠ 0x3#4 := by bv_omega
  have h4 : addr ≠ 0x4#4 := by bv_omega
  simp [State.portView, h1, h2, h3, h4]

/-- A read that finds OUT empty, or is not of OUT, changes the byte returned alone. -/
theorem State.hostRead_eq_answer {s : State} {addr : BitVec 4} (h : addr ≠ 0x4#4 ∨ s.out = []) :
    s.hostRead addr = s.answer (s.portView addr) := by
  have ho : (if addr = 0x4#4 then s.out.tail else s.out) = s.out := by
    rcases h with h | h <;> simp [h]
  simp only [State.hostRead, ho, State.answer]

theorem State.hostRead_of_inert (s : State) {addr : BitVec 4} (h : addr.toNat = 0 ∨ 5 ≤ addr.toNat) :
    s.hostRead addr = s.answer 0x00#8 := by
  rw [State.hostRead_eq_answer (.inl (by bv_omega)), s.portView_eq_zero h]

/-- Every decoded read has that effect. -/
theorem exec_decodePort_read (s : State) (addr : BitVec 4) :
    exec (decodePort (.read addr)) s = .next (s.hostRead addr) := by
  simp only [decodePort]
  split_ifs with h0 h1 h2 h3 h4 h5 h6
  · subst h0; rfl
  · subst h1; rfl
  · subst h2; rfl
  · subst h3; rfl
  · subst h4; rfl
  · subst h5; rfl
  · rw [s.hostRead_of_inert (by bv_omega)]; rfl
  · rw [s.hostRead_of_inert (by bv_omega)]; rfl

/-- Settles O16: the two address maps, the decoder's and the port's, agree on each address. -/
theorem hostReadFollowsAddressMap : Obligations.HostReadFollowsAddressMap := exec_decodePort_read

/-- A read looks at no operand buffer and leaves all five. -/
theorem State.emptyOperands_hostRead (s : State) (addr : BitVec 4) :
    (s.hostRead addr).emptyOperands = s.emptyOperands.hostRead addr := rfl

/-- Settles O40: a read commutes with emptying the operand buffers, and its byte is the same there. -/
theorem readsRevealNoOperand : Obligations.ReadsRevealNoOperand := by
  intro s t addr h
  have heq : (s.hostRead addr).emptyOperands = (t.hostRead addr).emptyOperands := by
    rw [State.emptyOperands_hostRead, State.emptyOperands_hostRead, h]
  exact ⟨_, _, exec_decodePort_read s addr, exec_decodePort_read t addr, congrArg (·.rdata) heq, heq⟩

/-! ### Writes -/

/-- The effect of `HostWrite(addr, v)` outside phase BUSY (R51): a command, a push, or nothing at a read-only or
reserved location (R56). -/
def portWrite (addr : BitVec 4) (v : Byte) : State → State :=
  if addr = 0x0#4 then State.cmdWrite v
  else if addr = 0x8#4 then State.pushPin v
  else if addr = 0x9#4 then State.pushPan v
  else if addr = 0xA#4 then State.pushKey v
  else if addr = 0xB#4 then State.pushA v
  else if addr = 0xC#4 then State.pushB v
  else id

theorem portWrite_eq_id {addr : BitVec 4} (v : Byte) (h : (1 ≤ addr.toNat ∧ addr.toNat ≤ 7) ∨ 13 ≤ addr.toNat) :
    portWrite addr v = id := by
  have h0 : addr ≠ 0x0#4 := by bv_omega
  have h8 : addr ≠ 0x8#4 := by bv_omega
  have h9 : addr ≠ 0x9#4 := by bv_omega
  have hA : addr ≠ 0xA#4 := by bv_omega
  have hB : addr ≠ 0xB#4 := by bv_omega
  have hC : addr ≠ 0xC#4 := by bv_omega
  simp [portWrite, h0, h8, h9, hA, hB, hC]

@[simp] theorem State.hostWrite_id (s : State) : s.hostWrite id = s := by simp [State.hostWrite]

/-- The masks of the inert write rows 0x2, 0x3 and 0x4 to 0x7 select those addresses (R73). -/
theorem toNat_of_inertWrite_mask : ∀ addr : BitVec 4, addr &&& 0xE#4 = 0x2#4 ∨ addr &&& 0xC#4 = 0x4#4 →
    1 ≤ addr.toNat ∧ addr.toNat ≤ 7 := by decide

/-- Every decoded write is a host write with that effect. -/
theorem exec_decodePort_write (s : State) (addr : BitVec 4) (v : Byte) :
    exec (decodePort (.write addr v)) s = .next (s.hostWrite (portWrite addr v)) := by
  simp only [decodePort]
  split_ifs with h0 h1 h2 h4 h8 h9 hA hB hC hD
  · subst h0; rfl
  · rw [portWrite_eq_id v (by simp [h1]), State.hostWrite_id]; rfl
  · rw [portWrite_eq_id v (.inl (toNat_of_inertWrite_mask addr (.inl h2))), State.hostWrite_id]; rfl
  · rw [portWrite_eq_id v (.inl (toNat_of_inertWrite_mask addr (.inr h4))), State.hostWrite_id]; rfl
  · subst h8; rfl
  · subst h9; rfl
  · subst hA; rfl
  · subst hB; rfl
  · subst hC; rfl
  · rw [portWrite_eq_id v (by simp [hD]), State.hostWrite_id]; rfl
  · have hid : portWrite addr v = id := by simp [portWrite, h0, h8, h9, hA, hB, hC]
    rw [hid, State.hostWrite_id]; rfl

/-- Settles O17: the port view is 0x00 at the locations no read answers, and the port write is the identity at those
no write reaches. -/
theorem inertAccessesChangeNothing : Obligations.InertAccessesChangeNothing := by
  constructor
  · intro s addr h
    rw [exec_decodePort_read, s.hostRead_of_inert h]; rfl
  · intro s addr v h
    rw [exec_decodePort_write, portWrite_eq_id v h, State.hostWrite_id]

/-- Settles O18: the meaning of each row is its whole effect. -/
theorem inertRowsComplete : Obligations.InertRowsComplete :=
  fun _ _ _ => ⟨rfl, rfl, rfl, rfl, rfl, rfl, rfl, rfl, rfl⟩

/-! ### The port in phase BUSY -/

section
variable {s : State} (h : s.Inv) (hb : s.busy = true)
include h hb

theorem State.Inv.done_of_busy : s.done = false := by simpa [hb] using h.phase

theorem State.Inv.err_of_busy : s.err = false := by
  cases he : s.err with
  | false => rfl
  | true => simpa [h.done_of_busy hb] using h.errDone he

theorem State.Inv.errcode_of_busy : s.errcode = 0x0#4 := h.errcodeErr.2 (h.err_of_busy hb)

/-- The old outcome was discarded at the start (R114). -/
theorem State.Inv.out_of_busy : s.out = [] := by
  by_contra ho
  simpa [h.done_of_busy hb] using (h.outDone ho).1

/-- In phase BUSY the host sees STATUS 0x01, and 0x00 everywhere else (R57). -/
theorem State.Inv.portView_of_busy (addr : BitVec 4) :
    s.portView addr = if addr = 0x1#4 then 0x01#8 else 0x00#8 := by
  simp [State.portView, State.statusByte, State.errcodeByte, State.outlenByte, hb, h.done_of_busy hb,
    h.err_of_busy hb, h.errcode_of_busy hb, h.out_of_busy hb]

/-- In phase BUSY a read changes the byte returned alone. -/
theorem exec_read_of_busy (addr : BitVec 4) :
    exec (decodePort (.read addr)) s = .next (s.answer (if addr = 0x1#4 then 0x01#8 else 0x00#8)) := by
  rw [exec_decodePort_read, State.hostRead_eq_answer (.inr (h.out_of_busy hb)), h.portView_of_busy hb]

end

/-- In phase BUSY a write is lost (R57). -/
theorem exec_write_of_busy {s : State} (hb : s.busy = true) (addr : BitVec 4) (v : Byte) :
    exec (decodePort (.write addr v)) s = .next s := by
  rw [exec_decodePort_write, s.hostWrite_of_busy _ hb]

/-- Settles O22: the guard of BUSY drops the writes, and the invariant leaves the reads no outcome to return. -/
theorem accessesWhileBusy : Obligations.AccessesWhileBusy :=
  ⟨fun _ addr v hb => exec_write_of_busy hb addr v, fun _ addr h hb => exec_read_of_busy h hb addr⟩

/-- In phase BUSY no transaction changes more than the byte last read. -/
theorem exec_port_of_busy {s : State} (h : s.Inv) (hb : s.busy = true) (t : Transaction) :
    ∃ v, exec (decodePort t) s = .next (s.answer v) := by
  cases t with
  | write addr v => exact ⟨s.rdata, exec_write_of_busy hb addr v⟩
  | read addr => exact ⟨_, exec_read_of_busy h hb addr⟩

/-! ### Steps by agent -/

/-- A host step runs its transaction's instruction (R101). -/
theorem step_port_of_ready {s : State} {t : Transaction} {rest : List Event} (h : s.ready = true)
    (hi : s.inbox = .port t :: rest) : step s = exec (decodePort t) (s.setInbox rest) :=
  (step_of_cons hi).trans (takeEvent_port_of_ready t h)

theorem step_core_of_ready {s : State} {rest : List Event} (h : s.ready = true) (hi : s.inbox = .core :: rest) :
    step s = coreTurn (s.setInbox rest) :=
  (step_of_cons hi).trans (takeEvent_core_of_ready h)

theorem coreTurn_of_quiet {s : State} (hb : s.busy = false) : coreTurn s = .next s := by simp [coreTurn, hb]

theorem coreTurn_of_latched {s : State} (hb : s.busy = true) (h0 : s.cmdreg ≠ 0x00#8) (hF : s.cmdreg ≠ 0x0F#8) :
    coreTurn s = exec (decodeCmd s.cmdreg) s := by simp [coreTurn, hb, h0, hF]

/-- Settles O4: the head of the inbox says whose turn it is. -/
theorem stepRunsDecodedInstruction : Obligations.StepRunsDecodedInstruction := fun s rest h =>
  ⟨fun _ hi => step_port_of_ready h hi,
   fun hi hb h0 hF => (step_core_of_ready h hi).trans (coreTurn_of_latched (s := s.setInbox rest) hb h0 hF),
   fun hi hb h0 hF => (step_of_ready_of_nil h hi).trans (coreTurn_of_latched hb h0 hF),
   fun hi hb => (step_core_of_ready h hi).trans (coreTurn_of_quiet (s := s.setInbox rest) hb),
   fun hi hb => (step_of_ready_of_nil h hi).trans (coreTurn_of_quiet hb)⟩

/-! ### The completion after any host steps -/

/-- Every command byte that starts a command is carried out by the core (R116, R117). -/
theorem decodeCmd_isOperation {v : Byte} (h0 : v ≠ 0x00#8) (hF : v ≠ 0x0F#8) : (decodeCmd v).isOperation = true := by
  simp only [decodeCmd, apply_ite Instr.isOperation]
  simp only [Instr.isOperation, h0, hF, if_false, ite_self]

/-- In phase BUSY the core's turn completes the latched command with its result (R115). -/
theorem coreTurn_of_busy {s : State} (h : s.Inv) (hb : s.busy = true) :
    ∃ r, coreResult (decodeCmd s.cmdreg) s = some r ∧ coreTurn s = .next (s.complete r) := by
  obtain ⟨h0, hF⟩ := h.cmdregBusy hb
  obtain ⟨r, hr⟩ := Option.isSome_iff_exists.1 ((coreResult_isSome _ s).trans (decodeCmd_isOperation h0 hF))
  exact ⟨r, hr, by rw [coreTurn_of_latched hb h0 hF, exec_of_coreResult hr, s.coreComplete_of_busy r hb]⟩

/-- The byte last read is no operand. -/
theorem coreResult_answer (i : Instr) (s : State) (v : Byte) : coreResult i (s.answer v) = coreResult i s := by
  cases i <;> rfl

/-- The byte last read has no part in the core's turn and outlives it. -/
theorem coreTurn_answer {s u : State} (h : s.Inv) (hb : s.busy = true) (hu : coreTurn s = .next u)
    (v : Byte) : coreTurn (s.answer v) = .next (u.answer v) := by
  obtain ⟨r, hr, hturn⟩ := coreTurn_of_busy h hb
  obtain ⟨r', hr', hturn'⟩ := coreTurn_of_busy (h.answer v) hb
  have hrr : r' = r := Option.some.inj (hr'.symm.trans ((coreResult_answer _ s v).trans hr))
  cases hturn.symm.trans hu
  rw [hturn', hrr]; rfl

theorem runSteps_succ {s t : State} (k : Nat) (h : step s = .next t) : runSteps (k + 1) s = runSteps k t := by
  simp [runSteps, h]

theorem runSteps_one (s : State) : runSteps 1 s = step s := by
  simp only [runSteps]
  cases step s <;> rfl

/-- Host transactions in phase BUSY leave the steps after them and all else but the byte last read. -/
theorem runSteps_port_of_busy {s : State} {ts : List Transaction} {rest : List Event} (k : Nat) (h : s.Inv)
    (hb : s.busy = true) (hi : s.inbox = ts.map Event.port ++ rest) :
    ∃ v, runSteps (ts.length + k) s = runSteps k ((s.setInbox rest).answer v) := by
  induction ts generalizing s with
  | nil =>
    have hs : (s.setInbox rest).answer s.rdata = s := by rw [← hi.trans (List.nil_append _)]; rfl
    exact ⟨s.rdata, by rw [hs, List.length_nil, Nat.zero_add]⟩
  | cons t ts ih =>
    have hrest := h.setInbox (ts.map Event.port ++ rest)
    obtain ⟨v, hv⟩ := exec_port_of_busy hrest hb t
    obtain ⟨w, hw⟩ := ih (hrest.answer v) hb rfl
    refine ⟨w, ?_⟩
    rw [List.length_cons, Nat.add_right_comm, runSteps_succ _ ((step_port_of_ready h.ready hi).trans hv), hw]
    rfl

/-- Settles O42: the transactions change the byte last read alone, and that has no part in the completion. -/
theorem completionIndependentOfHostSteps : Obligations.CompletionIndependentOfHostSteps := by
  intro s ts rest h hb hi
  obtain ⟨v, hv⟩ := runSteps_port_of_busy 1 h hb hi
  obtain ⟨r, -, hu⟩ := coreTurn_of_busy (h.setInbox rest) hb
  refine ⟨((s.setInbox rest).complete r).answer v, (s.setInbox rest).complete r, ?_, ?_, rfl⟩
  · exact (step_core_of_ready (s := s.setInbox (.core :: rest)) h.ready rfl).trans hu
  · rw [hv, runSteps_one]
    exact (step_core_of_ready (s := (s.setInbox (.core :: rest)).answer v) h.ready rfl).trans
      (coreTurn_answer (h.setInbox rest) hb hu v)

/-! ### POPALL -/

/-- `k + 1` pops: the last returns character `k` of OUT, and the characters after it are left (R52, R110). -/
theorem runSteps_pops {s : State} {k : Nat} {rest : List Event} (h : s.ready = true)
    (hi : s.inbox = List.replicate (k + 1) (.port (.read 0x4#4)) ++ rest) :
    ∃ t, runSteps (k + 1) s = .next t ∧ t.rdata = s.out.getD k 0x00#8 ∧ t.out = s.out.drop (k + 1) := by
  induction k generalizing s with
  | zero =>
    have hstep : step s = .next (s.setInbox rest).popOut := step_port_of_ready h hi
    exact ⟨_, (runSteps_one s).trans hstep, by simp [List.headD_eq_head?_getD, List.head?_eq_getElem?], by simp⟩
  | succ k ih =>
    obtain ⟨t, hrun, hdata, hout⟩ := ih (s := (s.setInbox (_ ++ _)).popOut) h rfl
    have hstep := step_port_of_ready h hi
    exact ⟨t, (runSteps_succ _ hstep).trans hrun, by simpa using hdata, by simpa using hout⟩

/-- Settles O45: the read of OUTLEN leaves OUT, and the pops follow. -/
theorem popallReturnsResultInOrder : Obligations.PopallReturnsResultInOrder := by
  intro s rest k h hk hi
  obtain ⟨n, hn⟩ := Nat.exists_eq_add_of_le (Nat.succ_le_of_lt hk)
  have hsplit : s.inbox = .port (.read 0x3#4) ::
      (List.replicate (k + 1) (.port (.read 0x4#4)) ++ (List.replicate n (.port (.read 0x4#4)) ++ rest)) := by
    rw [hi, popallEvents, hn, List.replicate_add, List.cons_append, List.append_assoc]
  obtain ⟨t, hrun, hdata, hout⟩ := runSteps_pops (s := (s.setInbox (_ ++ _)).answer s.outlenByte) h rfl
  exact ⟨t, (runSteps_succ _ (step_port_of_ready h hsplit)).trans hrun, hdata, hout⟩

/-! ### The outcome between commands -/

/-- Settles O38: with BUSY = 0 only CLEAR and a start touch the flags or the code, and they end the outcome. -/
theorem outcomeHeldUntilNextCommand : Obligations.OutcomeHeldUntilNextCommand := by
  intro i s t hb h hend
  rcases exec_cases h with (rfl | ⟨-, v, rfl⟩ | ⟨rfl, rfl⟩) | ⟨-, hw⟩ | ⟨hbusy, -⟩
  · simp
  · simp
  · simp
  · rcases hw with ⟨v, -, rfl⟩ | ⟨v, -, rfl⟩ | ⟨v, -, rfl⟩ | ⟨v, -, rfl⟩ | ⟨v, -, rfl⟩ | ⟨hclear, -⟩ |
      ⟨v, rfl, h0, -, -⟩
    · simp
    · simp
    · simp
    · simp
    · simp
    · exact absurd (hclear.imp_right fun hi => ⟨_, hi, by decide⟩) hend
    · exact absurd (.inr ⟨v, rfl, h0⟩) hend
  · simp [hb] at hbusy

end Sys2Proof.Machine

namespace Sys2Proof.Machine
open Sys2Proof.Statements

/-! ## The decoder

Words and transactions, the range rows, and the opcode table (30_encoding R70 to R75). -/

/-! ### Decoding what was encoded -/

/-- The two bytes of a transaction's PORT word are read back as the transaction (R70). -/
theorem decodeBytes_toBytes (t : Transaction) : decodeBytes t.toBytes = .ok (decodePort t) := by
  cases t with
  | write a v =>
    have hhigh : ∀ a : BitVec 4, (0x10#8 ||| a.setWidth 8) &&& 0xE0#8 = 0x00#8 ∧
        (0x10#8 ||| a.setWidth 8).getLsbD 4 = true ∧ (0x10#8 ||| a.setWidth 8).setWidth 4 = a := by decide
    obtain ⟨hunused, hdir, haddr⟩ := hhigh a
    simp only [decodeBytes, Transaction.toBytes, transactionOfBytes, hunused, hdir, haddr, if_true, Except.map]
  | read a =>
    have hhigh : ∀ a : BitVec 4, a.setWidth 8 &&& 0xE0#8 = 0x00#8 ∧ (a.setWidth 8).getLsbD 4 = false ∧
        (a.setWidth 8).setWidth 4 = a := by decide
    obtain ⟨hunused, hdir, haddr⟩ := hhigh a
    simp only [decodeBytes, Transaction.toBytes, transactionOfBytes, hunused, hdir, haddr, if_true,
      Bool.false_eq_true, if_false, Except.map]

/-- A byte in the range of an illegal row decodes to that row (R72). -/
theorem decodeCmd_of_range {row : Byte → Instr} (hrow : row ∈ [.illegal06_07, .illegal08_0B, .illegal0C_0D,
    .illegal10_1F, .illegal20_3F, .illegal40_7F, .illegal80_FF]) {v : Byte} (h : (row v).wellFormed = true) :
    decodeCmd v = row v := by
  simp only [List.mem_cons, List.not_mem_nil, or_false] at hrow
  rcases hrow with rfl | rfl | rfl | rfl | rfl | rfl | rfl <;> (revert v; decide)

/-- A read address in the range of an inert row decodes to that row (R56). -/
theorem decodePort_read_of_range {row : BitVec 4 → Instr} (hrow : row ∈ [.inertR6_7, .inertR8_F]) {a : BitVec 4}
    (h : (row a).wellFormed = true) : decodePort (.read a) = row a := by
  simp only [List.mem_cons, List.not_mem_nil, or_false] at hrow
  rcases hrow with rfl | rfl <;> (revert a; decide)

/-- A write address in the range of an inert row decodes to that row, whatever byte is written (R56). -/
theorem decodePort_write_of_range {row : BitVec 4 → Byte → Instr} (hrow : row ∈ [.inertW2_3, .inertW4_7, .inertWE_F])
    {a : BitVec 4} {v : Byte} (h : (row a v).wellFormed = true) : decodePort (.write a v) = row a v := by
  simp only [List.mem_cons, List.not_mem_nil, or_false] at hrow
  rcases hrow with rfl | rfl | rfl <;> simp only [Instr.wellFormed, beq_iff_eq] at h
  · have ha : ∀ a : BitVec 4, a &&& 0xE#4 = 0x2#4 → a = 0x2#4 ∨ a = 0x3#4 := by decide
    rcases ha a h with rfl | rfl <;> rfl
  · have ha : ∀ a : BitVec 4, a &&& 0xC#4 = 0x4#4 → a = 0x4#4 ∨ a = 0x5#4 ∨ a = 0x6#4 ∨ a = 0x7#4 := by decide
    rcases ha a h with rfl | rfl | rfl | rfl <;> rfl
  · have ha : ∀ a : BitVec 4, a &&& 0xE#4 = 0xE#4 → a = 0xE#4 ∨ a = 0xF#4 := by decide
    rcases ha a h with rfl | rfl <;> rfl

/-- Settles O2: a row without operands is one word, a range row is decoded from each byte or address it admits, and a
transaction's word is read back as the transaction. -/
theorem decodeOfEncode : Obligations.DecodeOfEncode := by
  intro i h
  cases i
  case nop | encode | decode | encrypt | decrypt | xorhex | clear | illegal0E => rfl
  case illegal06_07 | illegal08_0B | illegal0C_0D | illegal10_1F | illegal20_3F | illegal40_7F | illegal80_FF =>
    exact congrArg Except.ok (decodeCmd_of_range (by simp) h)
  case cmd | rdStatus | rdErrcode | rdOutlen | pop | pushPin | pushPan | pushKey | pushA | pushB | inertR0 | inertR5 |
      inertW1 | inertWD =>
    rw [encode, decodeBytes_toBytes]; rfl
  case inertR6_7 | inertR8_F =>
    rw [encode, decodeBytes_toBytes, decodePort_read_of_range (by simp) h]
  case inertW2_3 | inertW4_7 | inertWE_F =>
    rw [encode, decodeBytes_toBytes, decodePort_write_of_range (by simp) h]

/-- Settles O1: the model reads each word, written out in bits, as the row's instruction. -/
theorem writtenWordsDecode : Obligations.WrittenWordsDecode :=
  ⟨rfl, rfl, rfl, rfl, rfl, rfl, rfl, rfl, rfl, rfl⟩

/-! ### Command bytes in the opcode table -/

/-- A row of one byte encodes to that byte, and the other rows keep the byte they were decoded from. -/
theorem encode_decodeCmd (v : Byte) : encode (decodeCmd v) = [v] := by
  have hfixed (c : Byte) : (if v = c then [c] else [v]) = [v] := by
    split
    · next h => rw [h]
    · rfl
  simp only [decodeCmd, apply_ite encode]
  simp only [encode, hfixed, ite_self]

theorem wellFormed_decodeCmd (v : Byte) : (decodeCmd v).wellFormed = true := by revert v; decide

theorem onlyRow_decodeCmd (v : Byte) : onlyRow cmdRows v (decodeCmd v).rowIndex = true := by revert v; decide

/-! ### Transactions in the opcode table -/

theorem wellFormed_decodePort_read (a : BitVec 4) : (decodePort (.read a)).wellFormed = true := by revert a; decide

theorem wellFormed_decodePort_write (a : BitVec 4) (v : Byte) : (decodePort (.write a v)).wellFormed = true := by
  simp only [decodePort, apply_ite Instr.wellFormed]
  simp only [Instr.wellFormed]
  revert a; decide

/-- No row's mask covers the data bits of the PORT word, so the data are free in every row (R70, R73). -/
theorem and_mask_of_mem_portRows {r : BitVec 13 × BitVec 13} (hr : r ∈ portRows) (x : BitVec 5) (v : Byte) :
    (x ++ v) &&& r.2 = (x ++ 0#8) &&& r.2 := by
  obtain ⟨m, hm⟩ : ∃ m : BitVec 5, r.2 = m ++ 0#8 :=
    ⟨r.2.extractLsb' 8 5, eq_of_beq (List.all_eq_true.1
      (by decide : (portRows.all fun r => r.2 == (r.2.extractLsb' 8 5 ++ 0#8 : BitVec 13)) = true) r hr)⟩
  have hdata (v : Byte) : (x ++ v) &&& (m ++ 0#8) = (x &&& m) ++ 0#8 := by rw [BitVec.and_append, BitVec.and_zero]
  rw [hm]
  exact (hdata v).trans (hdata 0#8).symm

theorem onlyRow_portRows_data (x : BitVec 5) (v : Byte) (k : Nat) :
    onlyRow portRows (x ++ v) k = onlyRow portRows (x ++ 0#8) k := by
  simp only [onlyRow]
  rw [List.map_congr_left fun r hr => by rw [and_mask_of_mem_portRows hr]]

theorem rowIndex_decodePort_write (a : BitVec 4) (v : Byte) :
    (decodePort (.write a v)).rowIndex = (decodePort (.write a 0#8)).rowIndex := by
  simp only [decodePort, apply_ite Instr.rowIndex]; rfl

theorem onlyRow_decodePort_read (a : BitVec 4) (v : Byte) :
    onlyRow portRows (0#1 ++ a ++ v) (decodePort (.read a)).rowIndex = true := by
  rw [onlyRow_portRows_data (0#1 ++ a)]
  revert a; decide

theorem onlyRow_decodePort_write (a : BitVec 4) (v : Byte) :
    onlyRow portRows (1#1 ++ a ++ v) (decodePort (.write a v)).rowIndex = true := by
  rw [onlyRow_portRows_data (1#1 ++ a), rowIndex_decodePort_write]
  revert a; decide

/-- Settles O3: the bytes and the addresses are each checked against every row, and the data bits are in no mask. -/
theorem decodingTotalAndUnambiguous : Obligations.DecodingTotalAndUnambiguous :=
  ⟨fun v => ⟨wellFormed_decodeCmd v, onlyRow_decodeCmd v, encode_decodeCmd v⟩,
   fun a v => ⟨wellFormed_decodePort_write a v, onlyRow_decodePort_write a v⟩,
   fun a v => ⟨wellFormed_decodePort_read a, onlyRow_decodePort_read a v⟩⟩

end Sys2Proof.Machine

namespace Sys2Proof.Machine
open Sys2Proof.Statements

/-! ## The hex converters (R78 to R82) -/

/-! ### Characters -/

/-- HexChar's two ranges of characters (R79). -/
theorem hexChar_toNat (n : Nibble) :
    (hexChar n).toNat = if n.toNat ≤ 9 then 0x30 + n.toNat else 0x41 + (n.toNat - 10) := by
  revert n; decide

/-- HexVal undoes HexChar (R79). -/
@[simp] theorem hexVal_hexChar (n : Nibble) : hexVal (hexChar n) = some n := by revert n; decide

/-- The characters HexVal takes and their values (R78). -/
theorem hexVal_cases {c : Byte} {n : Nibble} (h : hexVal c = some n) :
    (c.toNat = 0x30 + n.toNat ∧ n.toNat ≤ 9) ∨ (c.toNat = 0x41 + (n.toNat - 10) ∧ 10 ≤ n.toNat) ∨
    (c.toNat = 0x61 + (n.toNat - 10) ∧ 10 ≤ n.toNat) := by
  simp only [hexVal] at h
  split_ifs at h with hdigit hupper hlower <;> cases h <;> simp only [BitVec.toNat_ofNat] <;> omega

theorem upperChar_toNat (c : Byte) :
    (upperChar c).toNat = if 0x61 ≤ c.toNat ∧ c.toNat ≤ 0x66 then c.toNat - 0x20 else c.toNat := by
  unfold upperChar
  split
  · bv_omega
  · rfl

/-- HexChar of a hex character's value is the character in upper case (R79). -/
theorem hexChar_of_hexVal {c : Byte} {n : Nibble} (h : hexVal c = some n) : hexChar n = upperChar c := by
  have hn := n.isLt
  apply BitVec.eq_of_toNat_eq
  rw [hexChar_toNat, upperChar_toNat]
  rcases hexVal_cases h with ⟨hc, hn⟩ | ⟨hc, hn⟩ | ⟨hc, hn⟩ <;> split_ifs <;> omega

/-- A result character is in upper case already. -/
theorem upperChar_of_isResultChar {c : Byte} (h : isResultChar c) : upperChar c = c :=
  if_neg (by unfold isResultChar at h; omega)

/-- HexChar gives back the digits and the upper-case letters and no other character (R79). -/
theorem hexChar_eq_iff {c : Byte} {n : Nibble} (h : hexVal c = some n) : hexChar n = c ↔ isResultChar c :=
  ⟨fun hc => hc ▸ isResultChar_hexChar n, fun hc => (hexChar_of_hexVal h).trans (upperChar_of_isResultChar hc)⟩

/-! ### Bytes -/

/-- A byte is 16 times its high nibble plus its low one (R81). -/
theorem ofNat_nibbles (b : Byte) :
    BitVec.ofNat 8 (16 * (b.extractLsb' 4 4).toNat + (b.extractLsb' 0 4).toNat) = b := by
  apply BitVec.eq_of_toNat_eq
  simp only [BitVec.toNat_ofNat, BitVec.extractLsb'_toNat, Nat.shiftRight_eq_div_pow]
  omega

/-- A byte made of two nibbles has them as its halves. -/
theorem extractLsb'_ofNat_nibbles (h l : Nibble) :
    (BitVec.ofNat 8 (16 * h.toNat + l.toNat)).extractLsb' 4 4 = h ∧
    (BitVec.ofNat 8 (16 * h.toNat + l.toNat)).extractLsb' 0 4 = l := by
  constructor <;> apply BitVec.eq_of_toNat_eq <;>
    simp only [BitVec.toNat_ofNat, BitVec.extractLsb'_toNat, Nat.shiftRight_eq_div_pow] <;> omega

/-- HexDecode undoes HexEncode (R82). -/
theorem hexDecode_hexEncode (bs : List Byte) : hexDecode (hexEncode bs) = some bs := by
  induction bs with
  | nil => rfl
  | cons b bs ih =>
    exact hexDecode_cons_cons_eq_some.2
      ⟨_, _, bs, hexVal_hexChar _, hexVal_hexChar _, ih, by rw [ofNat_nibbles]⟩

/-- Byte `k` is written by characters `2k` and `2k + 1` (R82). -/
theorem hexEncode_getD {bs : List Byte} {k : Nat} (hk : k < bs.length) :
    (hexEncode bs).getD (2 * k) 0x00#8 = hexChar ((bs.getD k 0x00#8).extractLsb' 4 4) ∧
    (hexEncode bs).getD (2 * k + 1) 0x00#8 = hexChar ((bs.getD k 0x00#8).extractLsb' 0 4) := by
  induction bs generalizing k with
  | nil => simp at hk
  | cons b bs ih =>
    cases k with
    | zero => exact ⟨rfl, rfl⟩
    | succ k => exact ih (Nat.lt_of_succ_lt_succ hk)

/-- Encoding a decoded string gives the string in upper case (R82). -/
theorem hexEncode_of_hexDecode : ∀ {s : Str} {bs : List Byte}, hexDecode s = some bs → hexEncode bs = upper s
  | [], _, h => by
    cases h
    rfl
  | [_], _, h => nomatch h
  | hi :: lo :: s, _, h => by
    obtain ⟨n, m, bs, hn, hm, hbs, rfl⟩ := hexDecode_cons_cons_eq_some.1 h
    obtain ⟨hhigh, hlow⟩ := extractLsb'_ofNat_nibbles n m
    rw [hexEncode, hhigh, hlow, hexChar_of_hexVal hn, hexChar_of_hexVal hm, hexEncode_of_hexDecode hbs]
    rfl

/-- Settles O57: the characters by their three ranges, the strings by induction on the bytes, or on the string two
characters at a time. -/
theorem hexConvertersInverse : Obligations.HexConvertersInverse :=
  ⟨fun n => ⟨hexChar_toNat n, hexVal_hexChar n⟩,
   fun _ _ h => ⟨hexChar_of_hexVal h, hexChar_eq_iff h⟩,
   fun bs => ⟨hexEncode_length bs, hexDecode_hexEncode bs, fun _ => hexEncode_getD⟩,
   fun _ _ => hexEncode_of_hexDecode⟩

end Sys2Proof.Machine

namespace Sys2Proof.Machine
open Sys2Proof.Statements

/-! ## The operands of a command

The core's result is a function of the buffers its command reads (R76), and the summaries the buffers hold give it the
result of the complete strings (R41, R86). -/

/-! ### Buffers a command does not read -/

/-- Equal capacities and equal buffers among those the command reads give the core one result (R76). -/
theorem coreResult_eq_of_reads {i : Instr} {s t : State} (hcfg : s.cfg = t.cfg)
    (h : (i = .encode ∧ s.pin = t.pin ∧ s.pan = t.pan) ∨ (i = .decode ∧ s.a = t.a ∧ s.pan = t.pan) ∨
      (i = .encrypt ∧ s.key = t.key ∧ s.a = t.a) ∨ (i = .decrypt ∧ s.key = t.key ∧ s.a = t.a) ∨
      (i = .xorhex ∧ s.a = t.a ∧ s.b = t.b)) :
    ∃ r, coreResult i s = some r ∧ coreResult i t = some r := by
  rcases h with ⟨rfl, h1, h2⟩ | ⟨rfl, h1, h2⟩ | ⟨rfl, h1, h2⟩ | ⟨rfl, h1, h2⟩ | ⟨rfl, h1, h2⟩
  · exact ⟨_, rfl, by simp only [coreResult, State.encodeResult, h1, h2]⟩
  · exact ⟨_, rfl, by simp only [coreResult, State.decodeResult, h1, h2]⟩
  · exact ⟨_, rfl, by simp only [coreResult, State.encryptResult, hcfg, h1, h2]⟩
  · exact ⟨_, rfl, by simp only [coreResult, State.decryptResult, hcfg, h1, h2]⟩
  · exact ⟨_, rfl, by simp only [coreResult, State.xorHexResult, hcfg, h1, h2]⟩

/-- In phase BUSY an instruction of the core completes with its result (R115). -/
theorem exec_of_coreResult_of_busy {i : Instr} {s : State} {r : Result} (hr : coreResult i s = some r)
    (hb : s.busy = true) : exec i s = .next (s.complete r) := by
  rw [exec_of_coreResult hr, s.coreComplete_of_busy r hb]

/-- Completions with one result have one outcome. -/
theorem sameOutcome_complete (s t : State) (r : Result) : sameOutcome (s.complete r) (t.complete r) :=
  ⟨rfl, rfl, rfl, rfl, rfl⟩

/-- Settles O41: both states complete with one result, and a completion empties every operand buffer. -/
theorem unreadBuffersHaveNoInfluence : Obligations.UnreadBuffersHaveNoInfluence := by
  intro s t hs ht hcfg i s' t' hs' ht' hreads
  obtain ⟨r, hrs, hrt⟩ := coreResult_eq_of_reads hcfg hreads
  cases (exec_of_coreResult_of_busy hrs hs).symm.trans hs'
  cases (exec_of_coreResult_of_busy hrt ht).symm.trans ht'
  exact ⟨sameOutcome_complete s t r, s.complete_operandsEmpty r, t.complete_operandsEmpty r⟩

/-! ### Summaries lose nothing -/

/-- A string that fits its buffer is held whole, and of a longer one the counter says that it does not fit (R28). -/
theorem pushAll_cases (cap : Nat) (x : Str) :
    (x.length ≤ cap ∧ pushAll cap x = ⟨x.length, x⟩) ∨
    (cap < x.length ∧ pushAll cap x = ⟨cap + 1, x.take cap⟩) := by
  rw [pushAll_eq]
  rcases Nat.lt_or_ge cap x.length with h | h
  · exact .inr ⟨h, by rw [Nat.min_eq_right h]⟩
  · exact .inl ⟨h, by rw [Nat.min_eq_left (by omega), List.take_of_length_le h]⟩

/-- The PAN counter tells lengths below 13 apart, and the window is what the functions take of the PAN (R23, R120). -/
theorem pushAllPan_len_lt (x : Str) : (pushAllPan x).len < 13 ↔ x.length < 13 := by
  rw [pushAllPan_eq]; simp only; omega

theorem pushAllPan_win (x : Str) : (pushAllPan x).win = lastPanDigits x := by rw [pushAllPan_eq]; rfl

/-- ENCODE refuses a PIN that does not fit, and of the PAN it looks at what the summary holds. -/
theorem encodeFn_pushAll (pin pan : Str) :
    encodeFn (pushAll 6 pin).len (pushAll 6 pin).ch (pushAllPan pan).len (pushAllPan pan).win = encodeStr pin pan := by
  simp only [encodeStr, encodeFn, panMin, pushAllPan_len_lt, pushAllPan_win]
  rcases pushAll_cases 6 pin with ⟨-, hpin⟩ | ⟨hlen, hpin⟩ <;> rw [hpin]
  simp [hlen]

/-- DECODE looks at a block of 16 characters only, which A holds whole. -/
theorem decodeFn_pushAll {cap : Nat} (hcap : 16 ≤ cap) (blk pan : Str) :
    decodeFn (pushAll cap blk).len (pushAll cap blk).ch (pushAllPan pan).len (pushAllPan pan).win =
      decodeStr blk pan := by
  simp only [decodeStr, decodeFn, panMin, pushAllPan_len_lt, pushAllPan_win]
  rcases pushAll_cases cap blk with ⟨-, hblk⟩ | ⟨hlen, hblk⟩ <;> rw [hblk]
  have hs : cap + 1 ≠ 16 := by omega
  have hl : blk.length ≠ 16 := by omega
  simp only [fieldHex, hs, hl, ne_eq, not_false_eq_true, if_true]

/-- A key or a block that does not fit is refused by its length, and one that fits is held whole. -/
theorem cipherFn_pushAll (f : Keys → List Byte → List Byte) (cap : Nat) (key data : Str) :
    cipherFn f cap (pushAll 48 key).len (pushAll 48 key).ch (pushAll cap data).len (pushAll cap data).ch =
      cipherFn f cap key.length key data.length data := by
  rcases pushAll_cases 48 key with ⟨-, hkey⟩ | ⟨hlen, hkey⟩ <;> rw [hkey]
  · rcases pushAll_cases cap data with ⟨-, hdata⟩ | ⟨hlen, hdata⟩ <;> rw [hdata]
    simp [cipherFn, hlen]
  · simp [cipherFn, hlen.ne']

/-- An operand that does not fit is refused by its length, and one that fits is held whole. -/
theorem xorHexFn_pushAll (cap : Nat) (a b : Str) :
    xorHexFn cap (pushAll cap a).len (pushAll cap a).ch (pushAll cap b).len (pushAll cap b).ch = xorHexStr cap a b := by
  unfold xorHexStr
  rcases pushAll_cases cap a with ⟨-, ha⟩ | ⟨hlen, ha⟩ <;> rw [ha]
  · rcases pushAll_cases cap b with ⟨-, hb⟩ | ⟨hlen, hb⟩ <;> rw [hb]
    simp [xorHexFn, hlen]
  · simp [xorHexFn, hlen]

/-! ### The script of a call -/

/-- A host write to a ready machine outside phase BUSY takes effect (R51, R57). -/
theorem step_write_of_quiet {s : State} (hready : s.ready = true) (hquiet : s.busy = false) (addr : BitVec 4) (v : Byte)
    (rest : List Event) :
    step (s.setInbox (.port (.write addr v) :: rest)) = .next (portWrite addr v (s.setInbox rest)) := by
  have hstep : step (s.setInbox (.port (.write addr v) :: rest)) =
      exec (decodePort (.write addr v)) (s.setInbox rest) := step_port_of_ready hready rfl
  rw [hstep, exec_decodePort_write, (s.setInbox rest).hostWrite_of_quiet _ hquiet]

/-- A string written to one port, character by character (R86). -/
def State.pushString (addr : BitVec 4) (x : Str) (s : State) : State := x.foldl (fun t c => portWrite addr c t) s

/-- A write to any location but CMD keeps the flags that let the next write through, is blind to the steps to come, and
is forgotten at a completion (R115). -/
theorem portWrite_keeps {addr : BitVec 4} (haddr : addr ≠ 0x0#4) (c : Byte) (s : State) :
    (portWrite addr c s).ready = s.ready ∧ (portWrite addr c s).busy = s.busy ∧
    (∀ l, portWrite addr c (s.setInbox l) = (portWrite addr c s).setInbox l) ∧
    ∀ r, (portWrite addr c s).complete r = s.complete r := by
  unfold portWrite
  rw [if_neg haddr]
  split_ifs <;> exact ⟨rfl, rfl, fun _ => rfl, fun _ => rfl⟩

theorem State.pushString_keeps {addr : BitVec 4} (haddr : addr ≠ 0x0#4) (x : Str) (s : State) :
    (s.pushString addr x).ready = s.ready ∧ (s.pushString addr x).busy = s.busy ∧
    ∀ r, (s.pushString addr x).complete r = s.complete r := by
  induction x generalizing s with
  | nil => exact ⟨rfl, rfl, fun _ => rfl⟩
  | cons c x ih =>
    obtain ⟨hready, hbusy, -, hcomplete⟩ := portWrite_keeps haddr c s
    obtain ⟨ihready, ihbusy, ihcomplete⟩ := ih (portWrite addr c s)
    exact ⟨ihready.trans hready, ihbusy.trans hbusy, fun r => (ihcomplete r).trans (hcomplete r)⟩

/-- Where each write pushes its character into one buffer, the string is folded into that buffer. -/
theorem State.pushString_of_push {β : Type} {addr : BitVec 4} {push : β → Byte → β} {load : β → State}
    (hpush : ∀ b c, portWrite addr c (load b) = load (push b c)) (b : β) (x : Str) :
    (load b).pushString addr x = load (x.foldl push b) := List.foldl_hom load hpush

section
variable (s : State) (x : Str)

theorem State.pushString_pin : s.pushString 0x8#4 x = { s with pin := x.foldl (fun b c => b.push 6 c) s.pin } :=
  State.pushString_of_push (load := fun b => { s with pin := b }) (fun _ _ => rfl) s.pin x

theorem State.pushString_pan : s.pushString 0x9#4 x = { s with pan := x.foldl (fun b c => b.push c) s.pan } :=
  State.pushString_of_push (load := fun b => { s with pan := b }) (fun _ _ => rfl) s.pan x

theorem State.pushString_key : s.pushString 0xA#4 x = { s with key := x.foldl (fun b c => b.push 48 c) s.key } :=
  State.pushString_of_push (load := fun b => { s with key := b }) (fun _ _ => rfl) s.key x

theorem State.pushString_a :
    s.pushString 0xB#4 x = { s with a := x.foldl (fun b c => b.push (dataCap s.cfg) c) s.a } :=
  State.pushString_of_push (load := fun b => { s with a := b }) (fun _ _ => rfl) s.a x

theorem State.pushString_b :
    s.pushString 0xC#4 x = { s with b := x.foldl (fun b c => b.push (dataCap s.cfg) c) s.b } :=
  State.pushString_of_push (load := fun b => { s with b := b }) (fun _ _ => rfl) s.b x

end

/-- `PUSH` writes its string one character a step (R86). -/
theorem runSteps_pushEvents {addr : BitVec 4} (haddr : addr ≠ 0x0#4) {s : State} (hready : s.ready = true)
    (hquiet : s.busy = false) (k : Nat) (x : Str) (rest : List Event) :
    runSteps (x.length + k) (s.setInbox (pushEvents addr x ++ rest)) =
      runSteps k ((s.pushString addr x).setInbox rest) := by
  induction x generalizing s with
  | nil => rw [List.length_nil, Nat.zero_add]; rfl
  | cons c x ih =>
    obtain ⟨hr, hb, hinbox, -⟩ := portWrite_keeps haddr c s
    have hstep : step (s.setInbox (pushEvents addr (c :: x) ++ rest)) =
        .next ((portWrite addr c s).setInbox (pushEvents addr x ++ rest)) :=
      (step_write_of_quiet hready hquiet addr c _).trans (congrArg _ (hinbox _))
    rw [List.length_cons, Nat.add_right_comm, runSteps_succ _ hstep, ih (hr.trans hready) (hb.trans hquiet)]
    rfl

/-- The write of a command byte and the core's turn complete the command with the core's result (R114, R115). -/
theorem runSteps_command {s : State} {v : Byte} {r : Result} (hready : s.ready = true) (hquiet : s.busy = false)
    (h0 : v ≠ 0x00#8) (hF : v ≠ 0x0F#8) (hr : coreResult (decodeCmd v) s = some r) (rest : List Event) :
    runSteps 2 (s.setInbox (.port (.write 0x0#4 v) :: .core :: rest)) = .next ((s.complete r).setInbox rest) := by
  have hstart : step (s.setInbox (.port (.write 0x0#4 v) :: .core :: rest)) =
      .next ((s.start v).setInbox (.core :: rest)) :=
    (step_write_of_quiet hready hquiet 0x0#4 v _).trans (congrArg _ (State.cmdWrite_start _ v h0 hF))
  have hr' : coreResult (decodeCmd v) ((s.start v).setInbox rest) = some r := by
    rw [← hr]
    cases decodeCmd v <;> rfl
  have hcore := step_core_of_ready (s := (s.start v).setInbox (.core :: rest)) hready rfl
  rw [runSteps_succ _ hstart, runSteps_one, hcore]
  exact (coreTurn_of_latched rfl h0 hF).trans (exec_of_coreResult_of_busy hr' rfl)

/-- A call as steps: two strings pushed, a command byte written, the core's turn (R86). -/
def callEvents (addr₁ : BitVec 4) (x : Str) (addr₂ : BitVec 4) (y : Str) (v : Byte) : List Event :=
  pushEvents addr₁ x ++ pushEvents addr₂ y ++ [.port (.write 0x0#4 v)] ++ [.core]

/-- The command completes with its result on the buffers the pushes left (R86, R115). -/
theorem runSteps_callEvents {addr₁ addr₂ : BitVec 4} (h₁ : addr₁ ≠ 0x0#4) (h₂ : addr₂ ≠ 0x0#4) {s : State} {x y : Str}
    {v : Byte} {r : Result} (hready : s.ready = true) (hquiet : s.busy = false) (h0 : v ≠ 0x00#8) (hF : v ≠ 0x0F#8)
    (hr : coreResult (decodeCmd v) ((s.pushString addr₁ x).pushString addr₂ y) = some r) (rest : List Event) :
    runSteps (callEvents addr₁ x addr₂ y v).length (s.setInbox (callEvents addr₁ x addr₂ y v ++ rest)) =
      .next ((s.complete r).setInbox rest) := by
  obtain ⟨hready₁, hquiet₁, hcomplete₁⟩ := s.pushString_keeps h₁ x
  obtain ⟨hready₂, hquiet₂, hcomplete₂⟩ := (s.pushString addr₁ x).pushString_keeps h₂ y
  rw [hready] at hready₁
  rw [hquiet] at hquiet₁
  have hlen : (callEvents addr₁ x addr₂ y v).length = x.length + (y.length + 2) := by
    simp [callEvents, pushEvents]
  have hevents : callEvents addr₁ x addr₂ y v ++ rest =
      pushEvents addr₁ x ++ (pushEvents addr₂ y ++ .port (.write 0x0#4 v) :: .core :: rest) := by
    simp [callEvents]
  rw [hlen, hevents, runSteps_pushEvents h₁ hready hquiet, runSteps_pushEvents h₂ hready₁ hquiet₁,
    runSteps_command (hready₂.trans hready₁) (hquiet₂.trans hquiet₁) h0 hF hr, hcomplete₂, hcomplete₁]

/-- Settles O44: the pushes leave the summaries of the call's two strings, and the command completes with its result on
the summaries, which is that on the strings. -/
theorem callReturnsPureFunction : Obligations.CallReturnsPureFunction := by
  rintro c s rest hready hquiet ⟨hpin, hpan, hkey, ha, hb⟩ hi
  have hs : s = s.setInbox (c.events ++ rest) := by rw [← hi]; rfl
  conv_lhs => rw [hs]
  cases c with
  | encode pin pan =>
    have hr : coreResult (decodeCmd 0x01#8) ((s.pushString 0x8#4 pin).pushString 0x9#4 pan) =
        some (encodeStr pin pan) := by
      rw [State.pushString_pan, State.pushString_pin, hpin, hpan]
      exact congrArg some (encodeFn_pushAll pin pan)
    exact runSteps_callEvents (by decide) (by decide) hready hquiet (by decide) (by decide) hr rest
  | decode blk pan =>
    have hr : coreResult (decodeCmd 0x02#8) ((s.pushString 0xB#4 blk).pushString 0x9#4 pan) =
        some (decodeStr blk pan) := by
      rw [State.pushString_pan, State.pushString_a, ha, hpan]
      exact congrArg some (decodeFn_pushAll (dataCap_bounds s.cfg).1 blk pan)
    exact runSteps_callEvents (by decide) (by decide) hready hquiet (by decide) (by decide) hr rest
  | encrypt key data =>
    have hr : coreResult (decodeCmd 0x03#8) ((s.pushString 0xA#4 key).pushString 0xB#4 data) =
        some (encryptStr (dataCap s.cfg) key data) := by
      rw [State.pushString_a, State.pushString_key, hkey, ha]
      exact congrArg some (cipherFn_pushAll ecbEnc _ key data)
    exact runSteps_callEvents (by decide) (by decide) hready hquiet (by decide) (by decide) hr rest
  | decrypt key data =>
    have hr : coreResult (decodeCmd 0x04#8) ((s.pushString 0xA#4 key).pushString 0xB#4 data) =
        some (decryptStr (dataCap s.cfg) key data) := by
      rw [State.pushString_a, State.pushString_key, hkey, ha]
      exact congrArg some (cipherFn_pushAll ecbDec _ key data)
    exact runSteps_callEvents (by decide) (by decide) hready hquiet (by decide) (by decide) hr rest
  | xorhex a b =>
    have hr : coreResult (decodeCmd 0x05#8) ((s.pushString 0xB#4 a).pushString 0xC#4 b) =
        some (xorHexStr (dataCap s.cfg) a b) := by
      rw [State.pushString_b, State.pushString_a, ha, hb]
      exact congrArg some (xorHexFn_pushAll _ a b)
    exact runSteps_callEvents (by decide) (by decide) hready hquiet (by decide) (by decide) hr rest

end Sys2Proof.Machine

namespace Sys2Proof.Machine
open Sys2Proof.Statements

/-! ## Execution of single instructions

The reads, the pushes and the command write (R102 to R114), the rows of the core in and outside phase BUSY (R115, R117),
and the core's step over a started command. -/

/-! ### The core's rows -/

/-- In phase BUSY a row whose result is an error fails with that error's code (R115). -/
theorem failsWith_of_coreResult {i : Instr} {s : State} {e : ErrorKind} (hr : coreResult i s = some (.err e))
    (hb : s.busy = true) : failsWith i s e.code := exec_of_coreResult_of_busy hr hb

/-- Every byte above the operations but CLEAR's is decoded to a row of illegal bytes (R72, R117). -/
theorem coreResult_decodeCmd_of_illegal {v : Byte} (hv : 5 < v.toNat) (hF : v ≠ 0x0F#8) (s : State) :
    coreResult (decodeCmd v) s = some (.err .illegalCommand) := by
  have h0 : v ≠ 0x00#8 := by bv_omega
  have h1 : v ≠ 0x01#8 := by bv_omega
  have h2 : v ≠ 0x02#8 := by bv_omega
  have h3 : v ≠ 0x03#8 := by bv_omega
  have h4 : v ≠ 0x04#8 := by bv_omega
  have h5 : v ≠ 0x05#8 := by bv_omega
  simp only [decodeCmd, h0, h1, h2, h3, h4, h5, hF, if_false, apply_ite (coreResult · s)]
  simp only [coreResult, ite_self]

/-- A command write outside phase BUSY starts the command, legal or not (R114). -/
theorem exec_cmd_of_quiet {s : State} {v : Byte} (hb : s.busy = false) (h0 : v ≠ 0x00#8) (hF : v ≠ 0x0F#8) :
    exec (.cmd v) s = .next (s.start v) :=
  congrArg _ ((s.hostWrite_of_quiet _ hb).trans (s.cmdWrite_start v h0 hF))

/-- Settles O31: the byte is neither NOP nor CLEAR, so it starts, and the result of each illegal row is IllegalCommand. -/
theorem illegalCommandFails : Obligations.IllegalCommandFails := by
  have hfail {i : Instr} {s : State} (hb : s.busy = true) (hr : coreResult i s = some (.err .illegalCommand)) :
      failsWith i s 0xF#4 := failsWith_of_coreResult hr hb
  constructor
  · intro s v hv hF
    exact ⟨fun hb => exec_cmd_of_quiet hb (by bv_omega) hF,
      fun hb => hfail hb (coreResult_decodeCmd_of_illegal hv hF s)⟩
  · intro s v hb
    exact ⟨hfail hb rfl, hfail hb rfl, hfail hb rfl, hfail hb rfl, hfail hb rfl, hfail hb rfl, hfail hb rfl,
      hfail hb rfl⟩

/-- Settles O25: the start is the model's own, and it validates nothing. -/
theorem commandWriteStarts : Obligations.CommandWriteStarts := fun _ _ => exec_cmd_of_quiet

/-- Settles O32: the core completes only with BUSY = 1. -/
theorem operationWaitsUnlessBusy : Obligations.OperationWaitsUnlessBusy := by
  intro i s hop hb
  obtain ⟨r, hr⟩ := Option.isSome_iff_exists.1 ((coreResult_isSome i s).trans hop)
  rw [exec_of_coreResult hr, s.coreComplete_of_quiet r hb]

/-- An instruction is a completion, or it raises neither DONE nor ERR and leaves of OUT no more than an end (R115). -/
theorem exec_completes_or_keeps_outcome {i : Instr} {s t : State} (h : exec i s = .next t) :
    (s.busy = true ∧ i.isOperation = true) ∨
    ((t.done = true → s.done = true) ∧ (t.err = true → s.err = true) ∧ t.out <:+ s.out) := by
  rcases exec_cases h with (rfl | ⟨-, v, rfl⟩ | ⟨-, rfl⟩) | ⟨-, hw⟩ | ⟨hb, r, hr, -⟩
  · exact .inr ⟨id, id, List.suffix_rfl⟩
  · exact .inr ⟨id, id, List.suffix_rfl⟩
  · exact .inr ⟨id, id, List.tail_suffix _⟩
  · right
    rcases hw with ⟨v, -, rfl⟩ | ⟨v, -, rfl⟩ | ⟨v, -, rfl⟩ | ⟨v, -, rfl⟩ | ⟨v, -, rfl⟩ | ⟨-, rfl⟩ |
      ⟨v, -, -, -, rfl⟩ <;> simp
  · exact .inl ⟨hb, isOperation_of_coreResult hr⟩

/-- Settles O35: a flag that rises, or an OUT that is no end of the old one, leaves the completion alone. -/
theorem onlyCompletionSetsOutcome : Obligations.OnlyCompletionSetsOutcome := by
  intro i s t h
  rcases exec_completes_or_keeps_outcome h with hcomplete | ⟨hdone, herr, hout⟩
  · exact ⟨fun _ _ => hcomplete, fun _ _ => hcomplete, fun _ => hcomplete⟩
  · refine ⟨fun hs ht => ?_, fun hs ht => ?_, fun hn => absurd hout hn⟩
    · simp [hdone ht] at hs
    · simp [herr ht] at hs

/-! ### The core's step -/

/-- The core's step, granted by the inbox or taken when it is empty, is the core's turn (R100). -/
theorem step_core_or_nil_of_ready {s : State} {rest : List Event} (h : s.ready = true)
    (hi : s.inbox = .core :: rest ∨ (s.inbox = [] ∧ rest = [])) : step s = coreTurn (s.setInbox rest) := by
  rcases hi with hi | ⟨hi, rfl⟩
  · exact step_core_of_ready h hi
  · have hs : s.setInbox [] = s := by rw [← hi]; rfl
    rw [hs, step_of_ready_of_nil h hi]

/-- Settles O43: the turn completes the latched command with its result, which is no CipherFailure. -/
theorem coreTurnCompletesCommand : Obligations.CoreTurnCompletesCommand := by
  intro s rest h hb hi
  obtain ⟨r, hr, hturn⟩ := coreTurn_of_busy (h.setInbox rest) hb
  refine ⟨_, (step_core_or_nil_of_ready h.ready hi).trans hturn, rfl, State.complete_operandsEmpty _ r, rfl, rfl, ?_⟩
  cases r with
  | ok o => exact .inl ⟨rfl, rfl⟩
  | err e => exact .inr ⟨rfl, e.code_ne_zero, Result.legalErrcode_code (coreResult_ne_cipherFailure hr), rfl⟩

/-! ### NOP, CLEAR and the pushes -/

/-- Settles O23: the command write of NOP's byte writes nothing, in phase BUSY or not. -/
theorem nopChangesNothing : Obligations.NopChangesNothing := fun s => ⟨rfl, congrArg _ s.hostWrite_id⟩

/-- CLEAR and the command write of its byte are one host write (R113). -/
theorem exec_cmd_clear (s : State) : exec (.cmd 0x0F#8) s = exec .clear s := rfl

/-- Settles O24: the host write takes effect outside phase BUSY alone. -/
theorem clearLeavesResetState : Obligations.ClearLeavesResetState := by
  intro s
  refine ⟨fun hb => ⟨?_, exec_cmd_clear s⟩, fun hb => ?_⟩
  · exact congrArg _ (s.hostWrite_of_quiet State.clear hb)
  · have hclear : exec .clear s = .next s := congrArg _ (s.hostWrite_of_busy State.clear hb)
    exact ⟨hclear, (exec_cmd_clear s).trans hclear⟩

/-- Settles O19: each row is a host write of the one push of R28, at its buffer's capacity. -/
theorem pushToCappedBuffer : Obligations.PushToCappedBuffer := fun _ _ => ⟨rfl, rfl, rfl, rfl⟩

/-- Settles O20: the row is a host write of the push of R29. -/
theorem pushToPanWindow : Obligations.PushToPanWindow := fun _ _ => rfl

/-! ### The flags and bytes a read returns -/

/-- The STATUS byte as a number (R31). -/
theorem State.statusByte_toNat (s : State) :
    s.statusByte.toNat = 4 * s.err.toNat + 2 * s.done.toNat + s.busy.toNat := by
  unfold State.statusByte
  generalize s.busy = b, s.done = d, s.err = e
  revert b d e
  decide

/-- The four values of STATUS: of IDLE, of BUSY, and of DONE after a success or a failure (R31, R107). -/
theorem State.Inv.statusByte_cases {s : State} (h : s.Inv) :
    s.statusByte = 0x00#8 ∨ s.statusByte = 0x01#8 ∨ s.statusByte = 0x02#8 ∨ s.statusByte = 0x06#8 := by
  have hphase := h.phase
  have herr := h.errDone
  unfold State.statusByte
  generalize s.busy = b, s.done = d, s.err = e at *
  revert b d e
  decide

/-- Settles O12: the byte read is the STATUS byte. -/
theorem readStatusReturnsFlags : Obligations.ReadStatusReturnsFlags :=
  ⟨fun s => ⟨s.statusByte, rfl, s.statusByte_toNat, fun h => h.statusByte_cases⟩, rfl⟩

theorem State.done_of_phase {s : State} (h : s.phase = some .idle ∨ s.phase = some .busy) : s.done = false := by
  unfold State.phase at h
  cases hd : s.done with
  | false => rfl
  | true => cases hb : s.busy <;> simp [hb, hd] at h

/-- ERRCODE is 0 before an outcome and after a success (R32). -/
theorem State.Inv.errcode_eq_zero {s : State} (h : s.Inv)
    (hs : s.phase = some .idle ∨ s.phase = some .busy ∨ s.err = false) : s.errcode = 0x0#4 := by
  rw [h.errcodeErr]
  rcases or_assoc.2 hs with hphase | herr
  · exact Bool.eq_false_iff.2 fun herr => by simpa [State.done_of_phase hphase] using h.errDone herr
  · exact herr

/-- Settles O13: the byte read is ERRCODE, extended by zeros. -/
theorem readErrcodeReturnsCode : Obligations.ReadErrcodeReturnsCode := by
  refine fun s => ⟨s.errcodeByte, rfl, ?_, fun h hs => ?_⟩
  · exact BitVec.toNat_setWidth_of_le (by decide)
  · rw [State.errcodeByte, h.errcode_eq_zero hs]; rfl

theorem State.Inv.out_length_le {s : State} (h : s.Inv) : s.out.length ≤ 240 :=
  h.outCap.trans (dataCap_bounds s.cfg).2

/-- Settles O14: a length of at most 240 is a byte. -/
theorem readOutlenReturnsLength : Obligations.ReadOutlenReturnsLength := by
  refine fun s => ⟨s.outlenByte, rfl, fun h => ⟨?_, h.out_length_le⟩⟩
  exact Nat.mod_eq_of_lt (h.out_length_le.trans_lt (by decide))

theorem State.popOut_of_nil {s : State} (h : s.out = []) : s.popOut = s.answer 0x00#8 := by
  simp [State.popOut, State.answer, h]

theorem State.popOut_of_cons {s : State} {c : Byte} {q : Str} (h : s.out = c :: q) :
    s.popOut = { s with rdata := c, out := q } := by
  simp [State.popOut, h]

/-- After a failed command OUT is empty (R115). -/
theorem State.Inv.out_of_err {s : State} (h : s.Inv) (he : s.err = true) : s.out = [] := by
  by_contra ho
  simpa [he] using (h.outDone ho).2

/-- 0x00 is no result character (R110). -/
theorem State.Inv.zero_notMem_out {s : State} (h : s.Inv) : 0x00#8 ∉ s.out := fun hmem =>
  absurd (h.outChars _ hmem) (by decide)

/-- Settles O15: a pop by the two forms of OUT, and what the invariant says of OUT. -/
theorem popRemovesFront : Obligations.PopRemovesFront := fun _ =>
  ⟨fun ho => congrArg _ (State.popOut_of_nil ho),
   fun _ _ ho => congrArg _ (State.popOut_of_cons ho),
   fun h hs => hs.elim h.out_of_busy h.out_of_err,
   State.Inv.zero_notMem_out⟩

end Sys2Proof.Machine

namespace Sys2Proof.Machine
open Sys2Proof.Statements

/-! ## The PIN-block codec (R120 to R128) -/

/-! ### Strings and their nibbles -/

/-- Nibbles undoes HexStr (R80). -/
@[simp] theorem nibbles_hexStr (ns : List Nibble) : nibbles (hexStr ns) = some ns := by
  induction ns with
  | nil => rfl
  | cons n ns ih => exact nibbles_cons_eq_some.2 ⟨n, ns, hexVal_hexChar n, ih, rfl⟩

/-- HexStr of a string's nibbles is the string in upper case (R79, R80). -/
theorem hexStr_of_nibbles {s : Str} {ns : List Nibble} (h : nibbles s = some ns) : hexStr ns = upper s := by
  induction s generalizing ns with
  | nil => cases h; rfl
  | cons c s ih =>
    obtain ⟨n, m, hn, hm, rfl⟩ := nibbles_cons_eq_some.1 h
    rw [hexStr_cons, hexChar_of_hexVal hn, ih hm]; rfl

/-- A string has no nibbles exactly when some character is not hex (R78, R80). -/
theorem nibbles_eq_none_iff {s : Str} : nibbles s = none ↔ isHex s = false := by
  rw [← nibbles_isSome, ← Option.not_isSome_iff_eq_none, Bool.not_eq_true]

theorem exists_nibbles_of_isHex {s : Str} (h : isHex s = true) : ∃ ns, nibbles s = some ns :=
  Option.isSome_iff_exists.1 ((nibbles_isSome s).trans h)

/-- The statements' nibble at an offset is the converter's, 0 past the end in both. -/
theorem nibbles_getD {s : Str} {ns : List Nibble} (h : nibbles s = some ns) (i : Nat) : ns.getD i 0x0#4 = nib s i := by
  induction s generalizing ns i with
  | nil => cases h; rfl
  | cons c s ih =>
    obtain ⟨n, m, hn, hm, rfl⟩ := nibbles_cons_eq_some.1 h
    cases i with
    | zero => simp [nib, hn]
    | succ i => exact ih hm i

theorem hexStr_getD {ns : List Nibble} {i : Nat} (hi : i < ns.length) :
    (hexStr ns).getD i 0x00#8 = hexChar (ns.getD i 0x0#4) := by
  simp [hexStr, hi]

theorem xorNibbles_getD {x y : List Nibble} {i : Nat} (hx : i < x.length) (hy : i < y.length) :
    (xorNibbles x y).getD i 0x0#4 = x.getD i 0x0#4 ^^^ y.getD i 0x0#4 := by
  simp [xorNibbles, hx, hy]

/-- A second XOR with one operand undoes the first (R170). -/
theorem xorNibbles_xorNibbles_cancel {x y : List Nibble} (h : x.length = y.length) :
    xorNibbles (xorNibbles x y) y = x := by
  apply List.ext_getElem
  · simp [h]
  · intro i _ _
    simp [xorNibbles]

/-! ### The two fields -/

/-- The PIN Field has 16 nibbles (R121). -/
theorem pinField_length {f : List Nibble} (h : f.length ≤ 14) : (pinField f).length = 16 := by
  simp [pinField]; omega

/-- The PIN Field at an offset (R121). -/
theorem pinField_getD {pin : Str} {f : List Nibble} (hf : nibbles pin = some f) {i : Nat} (hi : i < 16) :
    (pinField f).getD i 0x0#4 = pinFieldNib pin i := by
  have hlen := nibbles_length hf
  match i with
  | 0 => rfl
  | 1 => exact congrArg (BitVec.ofNat 4) hlen
  | i + 2 =>
    change (f ++ List.replicate (14 - f.length) 0xF#4).getD i 0x0#4 = _
    rcases Nat.lt_or_ge i f.length with h | h
    · have h' : i + 2 < 2 + pin.length := by omega
      rw [List.getD_append _ _ _ _ h, nibbles_getD hf]
      simp [pinFieldNib, h']
    · have h' : ¬ i + 2 < 2 + pin.length := by omega
      rw [List.getD_append_right _ _ _ _ h, List.getD_replicate _ (by omega)]
      simp [pinFieldNib, h']

/-- The PAN Field at an offset (R120). -/
theorem panField_getD {win : Str} {g : List Nibble} (hg : nibbles win = some g) (i : Nat) :
    (panField g).getD i 0x0#4 = panFieldNib win i := by
  match i with
  | 0 | 1 | 2 | 3 => rfl
  | i + 4 => simpa [panField, panFieldNib] using nibbles_getD hg i

/-- The PIN's nibbles stand in the PIN Field from offset 2 (R121). -/
theorem take_drop_pinField (f : List Nibble) : ((pinField f).drop 2).take f.length = f := by
  simp [pinField]

/-- Twelve characters of a PAN of 13 or more participate (R120). -/
theorem lastPanDigits_length {pan : Str} (h : 13 ≤ pan.length) : (lastPanDigits pan).length = 12 := by
  simp [lastPanDigits]; omega

/-! ### ENCODE and its checks in order (R122) -/

/-- In phase BUSY a row whose result is an output completes with it (R115). -/
theorem completesWith_of_coreResult {i : Instr} {s : State} {o : Str} (hr : coreResult i s = some (.ok o))
    (hb : s.busy = true) : completesWith i s o := exec_of_coreResult_of_busy hr hb

section
variable {pinLen panLen : Nat} {pin win : Str}

theorem encodeFn_of_pinLen (h : pinLen < 4 ∨ 6 < pinLen) :
    encodeFn pinLen pin panLen win = .err .invalidPinLength := if_pos h

variable (hpin : ¬(pinLen < 4 ∨ 6 < pinLen))
include hpin

theorem encodeFn_of_panLen (h : panLen < 13) : encodeFn pinLen pin panLen win = .err .invalidPanLength :=
  (if_neg hpin).trans (if_pos h)

variable (hpan : ¬panLen < 13)
include hpan

theorem encodeFn_of_not_isHex (h : isHex pin = false ∨ isHex win = false) :
    encodeFn pinLen pin panLen win = .err .invalidEncoding := by
  refine (if_neg hpin).trans ((if_neg hpan).trans ?_)
  rcases h with h | h
  · rw [nibbles_eq_none_iff.2 h]
  · rw [nibbles_eq_none_iff.2 h]; cases nibbles pin <;> rfl

theorem encodeFn_of_nibbles {f g : List Nibble} (hf : nibbles pin = some f) (hg : nibbles win = some g) :
    encodeFn pinLen pin panLen win = .ok (hexStr (xorNibbles (pinField f) (panField g))) := by
  refine (if_neg hpin).trans ((if_neg hpan).trans ?_)
  rw [hf, hg]

end

section
variable {pin win : Str} {f g : List Nibble} (hf : nibbles pin = some f) (hg : nibbles win = some g)
  (hpin : pin.length ≤ 6) (hwin : win.length = 12)
include hf hg hpin hwin

theorem encodeBlock_length : (hexStr (xorNibbles (pinField f) (panField g))).length = 16 := by
  have := nibbles_length hf
  have := nibbles_length hg
  simp [pinField_length (f := f) (by omega)]; omega

/-- A PIN Block is the XOR of the two fields, nibble by nibble (R122). -/
theorem encodeBlock_getD {i : Nat} (hi : i < 16) :
    (hexStr (xorNibbles (pinField f) (panField g))).getD i 0x00#8 =
      hexChar (pinFieldNib pin i ^^^ panFieldNib win i) := by
  have := nibbles_length hf
  have := nibbles_length hg
  rw [hexStr_getD, xorNibbles_getD, pinField_getD hf hi, panField_getD hg]
  · rw [pinField_length] <;> omega
  · rw [panField_length]; omega
  · rw [← hexStr_length, encodeBlock_length hf hg hpin hwin]; exact hi

end

/-- Settles O26: the checks by the branches of `encodeFn`, the block nibble by nibble from the two fields. -/
theorem encodeResult : Obligations.EncodeResult := by
  intro s hb ⟨_, hpin⟩ ⟨_, hwin⟩
  have hfail {e : ErrorKind} (h : s.encodeResult = .err e) : failsWith .encode s e.code :=
    failsWith_of_coreResult (congrArg some h) hb
  split_ifs with hpinLen hpanLen hhex
  · exact hfail (encodeFn_of_pinLen hpinLen)
  · exact hfail (encodeFn_of_panLen hpinLen hpanLen)
  · exact hfail (encodeFn_of_not_isHex hpinLen hpanLen hhex)
  · simp only [not_or, Bool.not_eq_false] at hhex
    obtain ⟨f, hf⟩ := exists_nibbles_of_isHex hhex.1
    obtain ⟨g, hg⟩ := exists_nibbles_of_isHex hhex.2
    have hp : s.pin.ch.length ≤ 6 := by omega
    have hw : s.pan.win.length = 12 := by simp only [panDigits] at hwin; omega
    exact ⟨_, completesWith_of_coreResult (congrArg some (encodeFn_of_nibbles hpinLen hpanLen hf hg)) hb,
      encodeBlock_length hf hg hp hw, fun _ => encodeBlock_getD hf hg hp hw⟩

/-! ### DECODE and its checks in order (R123) -/

section
variable {f : List Nibble} {l : Nat} (hl : (f.getD 1 0x0#4).toNat = l)
include hl

theorem pinOfField_of_ten_le (h : 10 ≤ l) : pinOfField f = .err .invalidLengthDigit := by
  subst hl; exact if_pos h

theorem pinOfField_of_range (h10 : ¬10 ≤ l) (h : l < 1 ∨ 6 < l) : pinOfField f = .err .pinOutOfRange := by
  subst hl; exact (if_neg h10).trans (if_pos h)

theorem pinOfField_of_mem (h10 : ¬10 ≤ l) (h : ¬(l < 1 ∨ 6 < l)) :
    pinOfField f = .ok (hexStr ((f.drop 2).take l)) := by
  subst hl; exact (if_neg h10).trans (if_neg h)

end

section
variable {blkLen panLen : Nat} {blk win : Str}

theorem decodeFn_of_blkLen (h : blkLen ≠ 16) : decodeFn blkLen blk panLen win = .err .invalidBlockLength := if_pos h

variable (hblk : ¬blkLen ≠ 16)
include hblk

theorem decodeFn_of_panLen (h : panLen < 13) : decodeFn blkLen blk panLen win = .err .invalidPanLength :=
  (if_neg hblk).trans (if_pos h)

variable (hpan : ¬panLen < 13)
include hpan

theorem decodeFn_of_not_isHex (h : isHex blk = false ∨ isHex win = false) :
    decodeFn blkLen blk panLen win = .err .invalidEncoding := by
  refine (if_neg hblk).trans ((if_neg hpan).trans ?_)
  rcases h with h | h
  · rw [nibbles_eq_none_iff.2 h]
  · rw [nibbles_eq_none_iff.2 h]; cases nibbles blk <;> rfl

theorem decodeFn_of_nibbles {b g : List Nibble} (hb : nibbles blk = some b) (hg : nibbles win = some g) :
    decodeFn blkLen blk panLen win = pinOfField (xorNibbles b (panField g)) := by
  refine (if_neg hblk).trans ((if_neg hpan).trans ?_)
  rw [hb, hg]

end

section
variable {blk win : Str} {b g : List Nibble} (hb : nibbles blk = some b) (hg : nibbles win = some g)
  (hblk : blk.length = 16) (hwin : win.length = 12)
include hb hg hblk hwin

theorem recoveredField_length : (xorNibbles b (panField g)).length = 16 := by
  simp [nibbles_length hb, nibbles_length hg, hblk, hwin]

/-- The recovered PIN Field is the XOR of the block and the PAN Field, nibble by nibble (R123). -/
theorem recoveredField_getD {i : Nat} (hi : i < 16) :
    (xorNibbles b (panField g)).getD i 0x0#4 = nib blk i ^^^ panFieldNib win i := by
  rw [xorNibbles_getD, nibbles_getD hb, panField_getD hg]
  · rw [nibbles_length hb]; omega
  · rw [panField_length, nibbles_length hg]; omega

/-- The PIN of length `l` stands from offset 2 of the recovered field (R123). -/
theorem recoveredPin_getD {l i : Nat} (hl : l ≤ 6) (hi : i < l) :
    (hexStr (((xorNibbles b (panField g)).drop 2).take l)).getD i 0x00#8 =
      hexChar (nib blk (2 + i) ^^^ panFieldNib win (2 + i)) := by
  have hlen := recoveredField_length hb hg hblk hwin
  rw [hexStr_getD (by simp only [List.length_take, List.length_drop]; omega),
    ← recoveredField_getD hb hg hblk hwin (by omega)]
  simp [List.getD_eq_getElem?_getD, hi]

theorem recoveredPin_length {l : Nat} (hl : l ≤ 6) :
    (hexStr (((xorNibbles b (panField g)).drop 2).take l)).length = l := by
  have hlen := recoveredField_length hb hg hblk hwin
  simp only [hexStr_length, List.length_take, List.length_drop]; omega

end

/-- Settles O27: the checks by the branches of `decodeFn` and `pinOfField`, the PIN nibble by nibble from the recovered
field, whose length nibble the last two checks look at. -/
theorem decodeResult : Obligations.DecodeResult := by
  intro s hb ⟨_, ha⟩ ⟨_, hwin⟩
  have hcap := (dataCap_bounds s.cfg).1
  have hfail {e : ErrorKind} (h : s.decodeResult = .err e) : failsWith .decode s e.code :=
    failsWith_of_coreResult (congrArg some h) hb
  by_cases hblkLen : s.a.len ≠ 16
  · rw [if_pos hblkLen]; exact hfail (decodeFn_of_blkLen hblkLen)
  by_cases hpanLen : s.pan.len < 13
  · rw [if_neg hblkLen, if_pos hpanLen]; exact hfail (decodeFn_of_panLen hblkLen hpanLen)
  by_cases hhex : isHex s.a.ch = false ∨ isHex s.pan.win = false
  · rw [if_neg hblkLen, if_neg hpanLen, if_pos hhex]; exact hfail (decodeFn_of_not_isHex hblkLen hpanLen hhex)
  rw [if_neg hblkLen, if_neg hpanLen, if_neg hhex]
  simp only [not_or, Bool.not_eq_false] at hhex
  obtain ⟨b, hb'⟩ := exists_nibbles_of_isHex hhex.1
  obtain ⟨g, hg⟩ := exists_nibbles_of_isHex hhex.2
  have hblk : s.a.ch.length = 16 := by omega
  have hw : s.pan.win.length = 12 := by simp only [panDigits] at hwin; omega
  have hresult := decodeFn_of_nibbles hblkLen hpanLen hb' hg
  have hl := congrArg BitVec.toNat (recoveredField_getD hb' hg hblk hw (i := 1) (by omega))
  split_ifs with h10 hrange
  · exact hfail (hresult.trans (pinOfField_of_ten_le hl h10))
  · exact hfail (hresult.trans (pinOfField_of_range hl h10 hrange))
  · have hl6 : (nib s.a.ch 1 ^^^ panFieldNib s.pan.win 1).toNat ≤ 6 := by omega
    have hlen := recoveredPin_length hb' hg hblk hw hl6
    exact ⟨_, completesWith_of_coreResult (congrArg some (hresult.trans (pinOfField_of_mem hl h10 hrange))) hb, hlen,
      fun i hi => recoveredPin_getD hb' hg hblk hw hl6 (hlen ▸ hi)⟩

/-! ### The codec on complete strings -/

/-- What a successful ENCODE was given and gives (R122). -/
theorem encodeStr_eq_ok {pin pan o : Str} (h : encodeStr pin pan = .ok o) :
    (4 ≤ pin.length ∧ pin.length ≤ 6) ∧ (lastPanDigits pan).length = 12 ∧
      ∃ f g, nibbles pin = some f ∧ nibbles (lastPanDigits pan) = some g ∧
        o = hexStr (xorNibbles (pinField f) (panField g)) := by
  rcases encodeFn_cases pin.length pin pan.length (lastPanDigits pan) with
    ⟨e, -, he⟩ | ⟨hpin, hpan, f, g, hf, hg, hok⟩
  · cases he.symm.trans h
  · cases hok.symm.trans h
    exact ⟨hpin, lastPanDigits_length hpan, f, g, hf, hg, rfl⟩

/-- The block of a successful ENCODE, nibble by nibble (R122). -/
theorem encodeStr_getD {pin pan o : Str} (h : encodeStr pin pan = .ok o) {i : Nat} (hi : i < 16) :
    o.getD i 0x00#8 = hexChar (pinFieldNib pin i ^^^ panFieldNib (lastPanDigits pan) i) := by
  obtain ⟨⟨-, hpin⟩, hwin, f, g, hf, hg, rfl⟩ := encodeStr_eq_ok h
  exact encodeBlock_getD hf hg hpin hwin hi

theorem encodeStr_length {pin pan o : Str} (h : encodeStr pin pan = .ok o) : o.length = 16 := by
  obtain ⟨⟨-, hpin⟩, hwin, f, g, hf, hg, rfl⟩ := encodeStr_eq_ok h
  exact encodeBlock_length hf hg hpin hwin

/-- A decoded PIN has 1 to 6 characters (R125). -/
theorem decodeStr_length {blk pan o : Str} (h : decodeStr blk pan = .ok o) : 1 ≤ o.length ∧ o.length ≤ 6 := by
  rcases decodeFn_cases blk.length blk pan.length (lastPanDigits pan) with
    ⟨e, -, he⟩ | ⟨hblk, hpan, b, g, hb, hg, hok⟩
  · cases he.symm.trans h
  · rcases pinOfField_cases (xorNibbles b (panField g)) with ⟨e, -, he⟩ | ⟨l, -, hl, hl', hpin⟩
    · cases (hok.trans he).symm.trans h
    · cases (hok.trans hpin).symm.trans h
      rw [recoveredPin_length hb hg hblk (lastPanDigits_length hpan) hl']
      exact ⟨hl, hl'⟩

/-- DECODE of the block of a PIN of 1 to 6 nibbles gives their characters: the PAN Field cancels, and the PIN Field
holds the length and the PIN (R124). -/
theorem decodeStr_encodeBlock {f g : List Nibble} {pan : Str} (hf : 1 ≤ f.length ∧ f.length ≤ 6)
    (hpan : 13 ≤ pan.length) (hg : nibbles (lastPanDigits pan) = some g) :
    decodeStr (hexStr (xorNibbles (pinField f) (panField g))) pan = .ok (hexStr f) := by
  have hfield : (pinField f).length = (panField g).length := by
    rw [pinField_length (by omega), panField_length, nibbles_length hg, lastPanDigits_length hpan]
  have hblk : (hexStr (xorNibbles (pinField f) (panField g))).length = 16 := by
    rw [hexStr_length, xorNibbles_length, ← hfield, min_self, pinField_length (by omega)]
  have hl : ((pinField f).getD 1 0x0#4).toNat = f.length := Nat.mod_eq_of_lt (by omega)
  calc decodeStr (hexStr (xorNibbles (pinField f) (panField g))) pan
      = pinOfField (xorNibbles (xorNibbles (pinField f) (panField g)) (panField g)) :=
        decodeFn_of_nibbles (not_not.2 hblk) (Nat.not_lt.2 hpan) (nibbles_hexStr _) hg
    _ = pinOfField (pinField f) := by rw [xorNibbles_xorNibbles_cancel hfield]
    _ = .ok (hexStr f) := by rw [pinOfField_of_mem hl (by omega) (by omega), take_drop_pinField]

/-- ENCODE and DECODE with one PAN give the PIN back in upper case (R124). -/
theorem decodeStr_encodeStr {pin pan : Str} (hlen : 4 ≤ pin.length ∧ pin.length ≤ 6) (hpan : 13 ≤ pan.length)
    (hpinHex : isHex pin = true) (hpanHex : isHex (lastPanDigits pan) = true) :
    ∃ o, encodeStr pin pan = .ok o ∧ decodeStr o pan = .ok (upper pin) := by
  obtain ⟨f, hf⟩ := exists_nibbles_of_isHex hpinHex
  obtain ⟨g, hg⟩ := exists_nibbles_of_isHex hpanHex
  have hflen := nibbles_length hf
  refine ⟨_, encodeFn_of_nibbles (by omega) (Nat.not_lt.2 hpan) hf hg, ?_⟩
  rw [decodeStr_encodeBlock (by omega) hpan hg, hexStr_of_nibbles hf]

/-- A decimal digit is a hex character (R78). -/
theorem isHex_of_isDecimal {s : Str} (h : ∀ c ∈ s, isDecimal c) : isHex s = true :=
  List.all_eq_true.2 fun c hc => by simp [hexVal, (h c hc).1, (h c hc).2]

/-- A string of decimal digits has no letter to change. -/
theorem upper_of_isDecimal {s : Str} (h : ∀ c ∈ s, isDecimal c) : upper s = s :=
  (List.map_congr_left fun c hc => upperChar_of_isResultChar (.inl (h c hc))).trans s.map_id

/-- Settles O46: the general round trip gives the PIN in upper case, and a decimal PIN is its own upper case. -/
theorem pinBlockRoundTrip : Obligations.PinBlockRoundTrip := by
  intro pin pan h4 h6 h13
  have hround := decodeStr_encodeStr ⟨h4, h6⟩ h13
  refine ⟨fun hpin hpan => ?_, hround⟩
  simpa only [upper_of_isDecimal hpin] using hround (isHex_of_isDecimal hpin) (isHex_of_isDecimal hpan)

/-- Settles O47, by what a successful ENCODE and a successful DECODE give. -/
theorem blockSizeInvariant : Obligations.BlockSizeInvariant := by
  refine ⟨fun pin pan o h => ⟨encodeStr_length h, ?_⟩, fun blk pan o => decodeStr_length⟩
  obtain ⟨-, -, f, g, -, -, rfl⟩ := encodeStr_eq_ok h
  exact fun c => isResultChar_of_mem_hexStr

/-- The PIN of a field does not depend on its control nibble (R126). -/
theorem pinOfField_cons (n m : Nibble) (f : List Nibble) : pinOfField (n :: f) = pinOfField (m :: f) := rfl

/-- The nibbles of a string behind a hex character. -/
theorem nibbles_cons_of_hexVal {c : Byte} {n : Nibble} (h : hexVal c = some n) (s : Str) :
    nibbles (c :: s) = (nibbles s).map (n :: ·) := by
  rw [nibbles, h]; cases nibbles s <;> rfl

/-- Settles O48: both fields begin with nibble 0; the first character enters DECODE only as the control nibble. -/
theorem controlNibbleNotExamined : Obligations.ControlNibbleNotExamined := by
  constructor
  · intro pin pan o h
    obtain ⟨-, -, f, g, -, -, rfl⟩ := encodeStr_eq_ok h
    rfl
  · intro c d blk pan hc hd
    obtain ⟨n, hn⟩ := Option.isSome_iff_exists.1 hc
    obtain ⟨m, hm⟩ := Option.isSome_iff_exists.1 hd
    have hfield (b g : List Nibble) :
        pinOfField (xorNibbles (n :: b) (panField g)) = pinOfField (xorNibbles (m :: b) (panField g)) :=
      pinOfField_cons (n ^^^ 0x0#4) (m ^^^ 0x0#4) _
    simp only [decodeStr, decodeFn, nibbles_cons_of_hexVal hn, nibbles_cons_of_hexVal hm, List.length_cons]
    cases nibbles blk with
    | none => rfl
    | some b =>
      cases nibbles (lastPanDigits pan) with
      | none => rfl
      | some g => simp only [Option.map_some, hfield]

/-- The length nibble of an ENCODE's block is the PIN's length (R121). -/
theorem encodeStr_lengthNibble {pin pan o : Str} (h : encodeStr pin pan = .ok o) :
    (nib o 1).toNat = pin.length := by
  obtain ⟨⟨-, hpin⟩, -⟩ := encodeStr_eq_ok h
  rw [nib, encodeStr_getD h (by omega), hexVal_hexChar]
  simp [pinFieldNib, panFieldNib]; omega

/-- Settles O49: DECODE's lengths by blocks of zero PINs, ENCODE's by its first check and by the block's length
nibble. -/
theorem lengthRangesDiffer : Obligations.LengthRangesDiffer := by
  refine ⟨fun pin pan o h => (encodeStr_eq_ok h).1, fun n h1 h6 => ?_, fun blk pan p pan' _ hp => ?_, by decide,
    fun pin pan h => ?_⟩
  · exact ⟨_, hexText 13 0, _, decodeStr_encodeBlock (f := List.replicate n 0x0#4) (g := List.replicate 12 0x0#4)
      (by simp; omega) (by decide) (by decide), by simp⟩
  · exact encodeFn_of_pinLen (.inl hp)
  · have hlen := encodeStr_lengthNibble h
    have h1 : (nib (hexText 16 0x0112345FFFFFFFFF) 1).toNat = 1 := by decide
    obtain ⟨⟨h4, -⟩, -⟩ := encodeStr_eq_ok h
    omega

end Sys2Proof.Machine

namespace Sys2Proof.Machine
open Sys2Proof.Statements

/-! ## The cipher (R140 to R147, R150 to R162)

DES deciphers what it enciphered by the Feistel structure and the pair of permutations IP and FP; its key schedule
reads no parity bit. Triple-DES and ECB over it inherit this, and the blocks of the data are those of its hex text. -/

/-! ### DES and its inverse (R160 to R162) -/

/-- Two permutations whose tables point at each other undo each other (R151). -/
theorem Des.permute_permute {n : Nat} {S T : List Nat} (hS : S.length = n) (hT : T.length = n)
    (h : ∀ i, i < n → S.getD i 0 - 1 < n ∧ T.getD (S.getD i 0 - 1) 0 - 1 = i) (x : BitVec n) :
    Des.permute n S (Des.permute n T x) = x := by
  apply BitVec.eq_of_getMsbD_eq
  intro i hi
  obtain ⟨hlt, hback⟩ := h i hi
  rw [Des.permute_getMsbD _ hS hi, Des.permute_getMsbD _ hT hlt, hback]

/-- FP undoes IP (R153). -/
theorem Des.permute_fp_ip (x : Block) : Des.permute 64 Des.fp (Des.permute 64 Des.ip x) = x :=
  Des.permute_permute (n := 64) rfl rfl (by decide) x

/-- IP undoes FP (R153). -/
theorem Des.permute_ip_fp (x : Block) : Des.permute 64 Des.ip (Des.permute 64 Des.fp x) = x :=
  Des.permute_permute (n := 64) rfl rfl (by decide) x

/-- A round is undone by the same round on swapped halves: its F is XORed in twice (R162). -/
theorem Des.round_swap_round (lr : BitVec 32 × BitVec 32) (k : BitVec 48) :
    Des.round (Des.round lr k).swap k = lr.swap := by
  obtain ⟨l, r⟩ := lr
  simp [Des.round]

/-- The rounds in the opposite order, on swapped halves, undo the rounds (R162). -/
theorem Des.rounds_reverse_swap_rounds (ks : List (BitVec 48)) (lr : BitVec 32 × BitVec 32) :
    Des.rounds ks.reverse (Des.rounds ks lr).swap = lr.swap := by
  induction ks generalizing lr with
  | nil => rfl
  | cons k ks ih =>
    rw [List.reverse_cons, Des.rounds_append, Des.rounds_cons k ks lr, ih, Des.rounds_cons, Des.rounds_nil,
      Des.round_swap_round]

/-- IP undoes FP on the preoutput, and the halves are its two sides (R160). -/
theorem Des.halves_permute_fp (l r : BitVec 32) : Des.halves (Des.permute 64 Des.fp (l ++ r)) = (l, r) := by
  rw [Des.halves, Des.permute_ip_fp]
  exact Prod.ext BitVec.extractLsb'_append_eq_left BitVec.extractLsb'_append_eq_right

/-- FP undoes IP on the two halves side by side (R160). -/
theorem Des.permute_fp_halves (x : Block) : Des.permute 64 Des.fp ((Des.halves x).1 ++ (Des.halves x).2) = x := by
  have happend : (Des.halves x).1 ++ (Des.halves x).2 = Des.permute 64 Des.ip x :=
    BitVec.extractLsb'_append_extractLsb'
  rw [happend, Des.permute_fp_ip]

/-- R160 under the round keys in the opposite order undoes R160 (R162). -/
theorem Des.crypt_reverse_crypt (ks : List (BitVec 48)) (x : Block) : Des.crypt ks.reverse (Des.crypt ks x) = x := by
  have hhalves : Des.halves (Des.crypt ks x) = (Des.rounds ks (Des.halves x)).swap := Des.halves_permute_fp _ _
  rw [Des.crypt, hhalves, Des.rounds_reverse_swap_rounds]
  exact Des.permute_fp_halves x

/-- DES deciphers what it enciphered (R162). -/
theorem Des.desDec_desEnc (k x : Block) : Des.desDec k (Des.desEnc k x) = x := Des.crypt_reverse_crypt _ x

/-- DES enciphers what it deciphered (R162). -/
theorem Des.desEnc_desDec (k x : Block) : Des.desEnc k (Des.desDec k x) = x := by
  have h := Des.crypt_reverse_crypt (Des.roundKeys k).reverse x
  rwa [List.reverse_reverse] at h

/-! ### The parity bits (R146, R158) -/

/-- A permutation looks at the bits its table names and at no other (R151). -/
theorem Des.permute_congr {m n : Nat} {T : List Nat} {x y : BitVec n}
    (h : ∀ t ∈ T, x.getMsbD (t - 1) = y.getMsbD (t - 1)) : Des.permute m T x = Des.permute m T y := by
  rw [Des.permute, Des.permute, List.map_congr_left h]

/-- Permuted choice 1 names no parity bit (R158). -/
theorem Des.pc1_no_parity : ∀ t ∈ Des.pc1, t - 1 < 64 ∧ (t - 1) % 8 ≠ 7 := by decide

/-- Keys that differ in parity bits only have the same round keys (R158). -/
theorem Des.roundKeys_congr {k k' : Block} (h : ∀ i, i < 64 → i % 8 ≠ 7 → k.getMsbD i = k'.getMsbD i) :
    Des.roundKeys k = Des.roundKeys k' := by
  have hbits (t : Nat) (ht : t ∈ Des.pc1) : k.getMsbD (t - 1) = k'.getMsbD (t - 1) :=
    h _ (Des.pc1_no_parity t ht).1 (Des.pc1_no_parity t ht).2
  have hc : Des.c0 k = Des.c0 k' := Des.permute_congr fun t ht => hbits t (List.mem_of_mem_take ht)
  have hd : Des.d0 k = Des.d0 k' := Des.permute_congr fun t ht => hbits t (List.mem_of_mem_drop ht)
  rw [Des.roundKeys, hc, hd, ← Des.roundKeys]

/-- Settles O54: the key enters only as its round keys. -/
theorem parityBitsIgnored : Obligations.ParityBitsIgnored := by
  intro k k' x h
  have hkeys := Des.roundKeys_congr h
  simp only [Des.desEnc, Des.desDec, hkeys, and_self]

/-! ### Triple-DES (R143) -/

/-- Deciphering strips the three layers in the opposite order (R143). -/
theorem tdesDec_tdesEnc (k : Keys) (x : Block) : tdesDec k (tdesEnc k x) = x := by
  rw [tdesDec, tdesEnc, Des.desDec_desEnc, Des.desEnc_desDec, Des.desDec_desEnc]

/-- Settles O52: the compositions are the model's own, and with equal keys the first two layers cancel. -/
theorem tripleDesInverse : Obligations.TripleDesInverse :=
  ⟨fun k x => ⟨rfl, rfl, tdesDec_tdesEnc k x⟩, fun k x => congrArg (Des.desEnc k) (Des.desDec_desEnc k x)⟩

/-! ### Blocks and bytes (R53, R150) -/

/-- A block is read back from its bytes. -/
@[simp] theorem blockOfBytes_bytesOfBlock (x : Block) : blockOfBytes (bytesOfBlock x) = x := by
  apply BitVec.eq_of_toNat_eq
  simp only [blockOfBytes, bytesOfBlock, List.foldl, BitVec.toNat_ofNat, BitVec.extractLsb'_toNat,
    Nat.shiftRight_eq_div_pow]
  omega

/-- Eight bytes are read back from their block. -/
theorem bytesOfBlock_blockOfBytes {bs : List Byte} (h : bs.length = 8) : bytesOfBlock (blockOfBytes bs) = bs := by
  match bs, h with
  | [b0, b1, b2, b3, b4, b5, b6, b7], _ =>
    simp only [blockOfBytes, bytesOfBlock, List.foldl, List.cons.injEq, and_true]
    refine ⟨?_, ?_, ?_, ?_, ?_, ?_, ?_, ?_⟩ <;> apply BitVec.eq_of_toNat_eq <;>
      simp only [BitVec.toNat_ofNat, BitVec.extractLsb'_toNat, Nat.shiftRight_eq_div_pow] <;> omega

/-! ### ECB (R144) -/

/-- ECB of whole blocks and what follows is ECB of the one and of the other. -/
theorem ecb_append (f : Block → Block) {m : Nat} {d : List Byte} (hd : d.length = 8 * m) (n : Nat) (e : List Byte) :
    ecb f (m + n) (d ++ e) = ecb f m d ++ ecb f n e := by
  induction m generalizing d with
  | zero => simp_all
  | succ m ih =>
    have hle : 8 ≤ d.length := by omega
    rw [Nat.add_right_comm, ecb_succ, ecb_succ, List.take_append_of_le_length hle, List.drop_append_of_le_length hle,
      ih (by rw [List.length_drop]; omega), List.append_assoc]

/-- Block `j` of the output is the cipher of block `j` of the data, whatever the other blocks hold. -/
theorem ecb_block (f : Block → Block) {n j : Nat} (hj : j < n) (d : List Byte) :
    ((ecb f n d).drop (8 * j)).take 8 = bytesOfBlock (f (blockOfBytes ((d.drop (8 * j)).take 8))) := by
  induction n generalizing j d with
  | zero => omega
  | succ n ih =>
    cases j with
    | zero => rfl
    | succ j =>
      rw [ecb_succ, Nat.mul_succ, Nat.add_comm, ← List.drop_drop, ← List.drop_drop,
        List.drop_left' (bytesOfBlock_length _), ih (Nat.lt_of_succ_lt_succ hj)]

/-- ECB of an inverse cipher undoes ECB of whole blocks. -/
theorem ecb_ecb_of_leftInverse {f g : Block → Block} (hgf : Function.LeftInverse g f) {n : Nat} {d : List Byte}
    (hd : d.length = 8 * n) : ecb g n (ecb f n d) = d := by
  induction n generalizing d with
  | zero => exact (List.eq_nil_of_length_eq_zero hd).symm
  | succ n ih =>
    have htake : (d.take 8).length = 8 := by rw [List.length_take]; omega
    rw [ecb_succ f, ecb_succ g, List.take_left' (bytesOfBlock_length _), List.drop_left' (bytesOfBlock_length _),
      blockOfBytes_bytesOfBlock, hgf, bytesOfBlock_blockOfBytes htake, ih (by rw [List.length_drop]; omega),
      List.take_append_drop]

/-- The claims of R144 for either direction, `f` the cipher on one block. -/
theorem ecb_blocks_independent (f : Block → Block) {d e : List Byte} (hd : d.length % 8 = 0) :
    ecb f ((d ++ e).length / 8) (d ++ e) = ecb f (d.length / 8) d ++ ecb f (e.length / 8) e ∧
    (ecb f (d.length / 8) d).length = d.length ∧
    (d.length = 8 → ecb f (d.length / 8) d = bytesOfBlock (f (blockOfBytes d))) := by
  refine ⟨?_, by rw [ecb_length]; omega, fun h8 => ?_⟩
  · have hsum : (d ++ e).length / 8 = d.length / 8 + e.length / 8 := by rw [List.length_append]; omega
    rw [hsum, ecb_append f (by omega)]
  · rw [h8, ecb_succ, ecb_zero, List.append_nil, List.take_of_length_le h8.le]

/-- Settles O53, by R144 for either direction. -/
theorem ecbBlocksIndependent : Obligations.EcbBlocksIndependent := by
  intro k d e hd _
  obtain ⟨hencApp, hencLen, hencOne⟩ := ecb_blocks_independent (tdesEnc k) (e := e) hd
  obtain ⟨hdecApp, hdecLen, hdecOne⟩ := ecb_blocks_independent (tdesDec k) (e := e) hd
  exact ⟨hencApp, hdecApp, hencLen, hdecLen, fun h8 => ⟨hencOne h8, hdecOne h8⟩⟩

/-! ### Blocks of hex characters (R81, R150) -/

/-- A string of an even length is decoded exactly when all its characters are hex (R81). -/
theorem hexDecode_isSome : ∀ {s : Str}, s.length % 2 = 0 → (hexDecode s).isSome = isHex s
  | [], _ => rfl
  | [_], h => by simp at h
  | hi :: lo :: s, h => by
    have ih : (hexDecode s).isSome = isHex s := hexDecode_isSome (by simp at h; omega)
    simp only [isHex, hexDecode, List.all_cons] at ih ⊢
    rw [← ih]
    cases hexVal hi <;> cases hexVal lo <;> cases hexDecode s <;> rfl

/-- A string of an even length is not decoded exactly when some character is not hex (R81). -/
theorem hexDecode_eq_none_iff {s : Str} (h : s.length % 2 = 0) : hexDecode s = none ↔ isHex s = false := by
  rw [← hexDecode_isSome h, ← Option.not_isSome_iff_eq_none, Bool.not_eq_true]

theorem exists_hexDecode_of_isHex {s : Str} (h : s.length % 2 = 0) (hs : isHex s = true) :
    ∃ bs, hexDecode s = some bs :=
  Option.isSome_iff_exists.1 ((hexDecode_isSome h).trans hs)

/-- The string without its first `2k` characters is decoded to the bytes without the first `k`. -/
theorem hexDecode_drop {s : Str} {bs : List Byte} (h : hexDecode s = some bs) (k : Nat) :
    hexDecode (s.drop (2 * k)) = some (bs.drop k) := by
  induction k generalizing s bs with
  | zero => exact h
  | succ k ih =>
    match s with
    | [] => cases h; rfl
    | [_] => exact nomatch h
    | hi :: lo :: s =>
      obtain ⟨_, _, m, -, -, hm, rfl⟩ := hexDecode_cons_cons_eq_some.1 h
      exact ih hm

/-- The first `2k` characters are decoded to the first `k` bytes. -/
theorem hexDecode_take {s : Str} {bs : List Byte} (h : hexDecode s = some bs) (k : Nat) :
    hexDecode (s.take (2 * k)) = some (bs.take k) := by
  induction k generalizing s bs with
  | zero => simp [hexDecode]
  | succ k ih =>
    match s with
    | [] => cases h; rfl
    | [_] => exact nomatch h
    | hi :: lo :: s =>
      obtain ⟨n, l, m, hn, hl, hm, rfl⟩ := hexDecode_cons_cons_eq_some.1 h
      exact hexDecode_cons_cons_eq_some.2 ⟨n, l, m.take k, hn, hl, ih hm, rfl⟩

/-- The number a hex string writes in base 16 is the one its bytes write in base 256. -/
theorem foldl_hexVal_of_hexDecode : ∀ {s : Str} {bs : List Byte}, hexDecode s = some bs → ∀ a : Nat,
    s.foldl (fun n c => 16 * n + ((hexVal c).getD 0x0#4).toNat) a = bs.foldl (fun n b => 256 * n + b.toNat) a
  | [], _, h, _ => by
    cases h
    rfl
  | [_], _, h, _ => nomatch h
  | hi :: lo :: s, _, h, a => by
    obtain ⟨n, l, m, hn, hl, hm, rfl⟩ := hexDecode_cons_cons_eq_some.1 h
    have hbyte : 16 * (16 * a + n.toNat) + l.toNat =
        256 * a + (BitVec.ofNat 8 (16 * n.toNat + l.toNat)).toNat := by
      simp only [BitVec.toNat_ofNat]; omega
    simp only [List.foldl_cons, hn, hl, Option.getD_some, hbyte]
    exact foldl_hexVal_of_hexDecode hm _

/-- Block `j` of a hex string, read from its 16 characters, is block `j` of its bytes (R150). -/
theorem hexBlock_drop {s : Str} {bs : List Byte} (h : hexDecode s = some bs) (j : Nat) :
    hexBlock (s.drop (16 * j)) = blockOfBytes ((bs.drop (8 * j)).take 8) := by
  have hdrop : hexDecode (s.drop (16 * j)) = some (bs.drop (8 * j)) := by
    rw [← hexDecode_drop h, ← Nat.mul_assoc]
  exact congrArg (BitVec.ofNat 64) (foldl_hexVal_of_hexDecode (hexDecode_take hdrop 8) 0)

/-- Block `j` of the ciphered text is the cipher of block `j` of the text, on hex characters (R144). -/
theorem hexBlock_ecb (f : Block → Block) {s : Str} {d : List Byte} (h : hexDecode s = some d) {n j : Nat} (hj : j < n) :
    hexBlock ((hexEncode (ecb f n d)).drop (16 * j)) = f (hexBlock (s.drop (16 * j))) := by
  rw [hexBlock_drop (hexDecode_hexEncode _), ecb_block f hj, blockOfBytes_bytesOfBlock, hexBlock_drop h]

/-- The three keys are the three blocks of the key's 48 characters (R140). -/
theorem splitKey_of_hexDecode {key : Str} {kb : List Byte} (h : hexDecode key = some kb) :
    splitKey kb = ⟨hexBlock key, hexBlock (key.drop 16), hexBlock (key.drop 32)⟩ := by
  have h0 := hexBlock_drop h 0
  have h1 := hexBlock_drop h 1
  have h2 := hexBlock_drop h 2
  simp only [Nat.mul_zero, Nat.mul_one, Nat.reduceMul, List.drop_zero] at h0 h1 h2
  rw [h0, h1, h2, splitKey]

/-! ### ENCRYPT and DECRYPT and their checks in order (R141, R142) -/

section
variable {f : Keys → List Byte → List Byte} {cap keyLen dataLen : Nat} {key data : Str}

theorem cipherFn_of_keyLen (h : keyLen ≠ 48) :
    cipherFn f cap keyLen key dataLen data = .err .invalidKeyLength := if_pos h

variable (hkey : ¬keyLen ≠ 48)
include hkey

theorem cipherFn_of_dataLen (h : dataLen = 0 ∨ dataLen % 16 ≠ 0 ∨ cap < dataLen) :
    cipherFn f cap keyLen key dataLen data = .err .invalidBlockLength := (if_neg hkey).trans (if_pos h)

variable (hdata : ¬(dataLen = 0 ∨ dataLen % 16 ≠ 0 ∨ cap < dataLen))
include hdata

theorem cipherFn_of_hexDecode_eq_none (h : hexDecode key = none ∨ hexDecode data = none) :
    cipherFn f cap keyLen key dataLen data = .err .invalidEncoding := by
  refine (if_neg hkey).trans ((if_neg hdata).trans ?_)
  rcases h with h | h
  · rw [h]
  · rw [h]; cases hexDecode key <;> rfl

theorem cipherFn_of_hexDecode {kb d : List Byte} (hk : hexDecode key = some kb) (hd : hexDecode data = some d) :
    cipherFn f cap keyLen key dataLen data = .ok (hexEncode (f (splitKey kb) d)) := by
  refine (if_neg hkey).trans ((if_neg hdata).trans ?_)
  rw [hk, hd]

end

/-- A row whose result is that of the shared checks over ECB of `f` has the outcome of R141 with `f` on each block. -/
theorem cipherOutcome_of_coreResult (f : Keys → Block → Block) {i : Instr} {s : State}
    (hr : coreResult i s = some (cipherFn (fun k d => ecb (f k) (d.length / 8) d) (dataCap s.cfg) s.key.len s.key.ch
      s.a.len s.a.ch)) (hb : s.busy = true) (hkey : s.key.wf 48) (ha : s.a.wf (dataCap s.cfg)) :
    cipherOutcome i (fun k1 k2 k3 x => f ⟨k1, k2, k3⟩ x) s := by
  obtain ⟨-, hkeyCh⟩ := hkey
  obtain ⟨-, haCh⟩ := ha
  unfold cipherOutcome
  by_cases hkeyLen : s.key.len ≠ 48
  · rw [if_pos hkeyLen]
    exact failsWith_of_coreResult (hr.trans (congrArg some (cipherFn_of_keyLen hkeyLen))) hb
  by_cases hdataLen : s.a.len = 0 ∨ s.a.len % 16 ≠ 0 ∨ dataCap s.cfg < s.a.len
  · rw [if_neg hkeyLen, if_pos hdataLen]
    exact failsWith_of_coreResult (hr.trans (congrArg some (cipherFn_of_dataLen hkeyLen hdataLen))) hb
  rw [if_neg hkeyLen, if_neg hdataLen]
  have hkeyEven : s.key.ch.length % 2 = 0 := by omega
  have haEven : s.a.ch.length % 2 = 0 := by omega
  split_ifs with hhex
  · rw [← hexDecode_eq_none_iff hkeyEven, ← hexDecode_eq_none_iff haEven] at hhex
    exact failsWith_of_coreResult
      (hr.trans (congrArg some (cipherFn_of_hexDecode_eq_none hkeyLen hdataLen hhex))) hb
  · simp only [not_or, Bool.not_eq_false] at hhex
    obtain ⟨kb, hk⟩ := exists_hexDecode_of_isHex hkeyEven hhex.1
    obtain ⟨d, hd⟩ := exists_hexDecode_of_isHex haEven hhex.2
    have hdLen := length_of_hexDecode_eq_some hd
    have hok := hr.trans (congrArg some (cipherFn_of_hexDecode hkeyLen hdataLen hk hd))
    refine ⟨_, completesWith_of_coreResult hok hb, ?_, fun c => isResultChar_of_mem_hexEncode, fun j hj => ?_⟩
    · rw [hexEncode_length, ecb_length]; omega
    · rw [hexBlock_ecb _ hd (by omega), splitKey_of_hexDecode hk]

/-- Settles O28: ENCRYPT's result is that of the shared checks over ECB of `tdesEnc`. -/
theorem encryptResult : Obligations.EncryptResult := fun _ => cipherOutcome_of_coreResult tdesEnc rfl

/-- Settles O29: DECRYPT's result is that of the shared checks over ECB of `tdesDec`. -/
theorem decryptResult : Obligations.DecryptResult := fun _ => cipherOutcome_of_coreResult tdesDec rfl

/-! ### The round trip (R145) -/

/-- Deciphering undoes enciphering of whole blocks under one key (R145). -/
theorem ecbDec_ecbEnc (k : Keys) {d : List Byte} (hd : d.length % 8 = 0) : ecbDec k (ecbEnc k d) = d := by
  have hlen : (ecbEnc k d).length = d.length := (ecb_blocks_independent (tdesEnc k) (e := []) hd).2.1
  rw [ecbDec, hlen]
  exact ecb_ecb_of_leftInverse (tdesDec_tdesEnc k) (by simp only [desBlockBytes]; omega)

/-- What a successful ENCRYPT was given and gives (R141). -/
theorem encryptStr_eq_ok {cap : Nat} {key data c : Str} (h : encryptStr cap key data = .ok c) :
    key.length = 48 ∧ (data.length ≠ 0 ∧ data.length % 16 = 0 ∧ data.length ≤ cap) ∧
      ∃ kb d, hexDecode key = some kb ∧ hexDecode data = some d ∧ c = hexEncode (ecbEnc (splitKey kb) d) := by
  rcases cipherFn_cases ecbEnc cap key.length key data.length data with
    ⟨e, -, he⟩ | ⟨hkey, hdata, kb, d, hk, hd, hok⟩
  · cases he.symm.trans h
  · cases hok.symm.trans h
    exact ⟨hkey, hdata, kb, d, hk, hd, rfl⟩

/-- Settles O55: the ciphertext passes DECRYPT's checks as the data passed ENCRYPT's, and ECB undone gives the data's
bytes, whose hex text is the data in upper case. -/
theorem cipherRoundTrip : Obligations.CipherRoundTrip := by
  refine ⟨fun cap key data c h => ?_, fun cap key data h => ⟨cipherFn_of_keyLen h, cipherFn_of_keyLen h⟩⟩
  obtain ⟨hkey, ⟨hne, hmod, hcap⟩, kb, d, hk, hd, rfl⟩ := encryptStr_eq_ok h
  have hdLen := length_of_hexDecode_eq_some hd
  have hcLen : (hexEncode (ecbEnc (splitKey kb) d)).length = data.length := by
    rw [hexEncode_length, ecbEnc, ecb_length, desBlockBytes]; omega
  refine ⟨?_, hcLen⟩
  calc decryptStr cap key (hexEncode (ecbEnc (splitKey kb) d))
      = .ok (hexEncode (ecbDec (splitKey kb) (ecbEnc (splitKey kb) d))) :=
        cipherFn_of_hexDecode (not_not.2 hkey) (by omega) hk (hexDecode_hexEncode _)
    _ = .ok (upper data) := by rw [ecbDec_ecbEnc _ (by omega), hexEncode_of_hexDecode hd]

end Sys2Proof.Machine

namespace Sys2Proof.Machine
open Sys2Proof.Statements

/-! ## The DES core (R162, R163) -/

/-- Settles O51: the round keys in the opposite order undo the rounds, and FP and IP undo each other. -/
theorem desInverse : Obligations.DesInverse := fun k x => ⟨Des.desDec_desEnc k x, Des.desEnc_desDec k x⟩

/-! ### The worked examples (R163) -/

/-- The output block is FP of the preoutput, the halves after the last round swapped (R160). -/
theorem Des.desEnc_of_rounds {k x : Block} {l r : BitVec 32}
    (h : Des.rounds (Des.roundKeys k) (Des.halves x) = (l, r)) : Des.desEnc k x = Des.permute 64 Des.fp (r ++ l) := by
  rw [Des.desEnc, Des.crypt, h]

/-- The halves after round 16 in R163 (a). -/
theorem Des.rounds_example_a : Des.rounds (Des.roundKeys 0x133457799BBCDFF1) (Des.halves 0x0123456789ABCDEF) =
    (0x43423234, 0x0A4CD995) := by decide +kernel

/-- The ciphertext of R163 (a). -/
theorem Des.desEnc_example_a : Des.desEnc 0x133457799BBCDFF1 0x0123456789ABCDEF = 0x85E813540F0AB405 :=
  (Des.desEnc_of_rounds Des.rounds_example_a).trans (by decide +kernel)

/-- The halves after round 16 in R163 (b). -/
theorem Des.rounds_example_b : Des.rounds (Des.roundKeys 0x0123456789ABCDEF) (Des.halves 0x041262876FEDCBA9) =
    (0x1A5906BE, 0x690044A3) := by decide +kernel

/-- The ciphertext of R163 (b). -/
theorem Des.desEnc_example_b : Des.desEnc 0x0123456789ABCDEF 0x041262876FEDCBA9 = 0x618B0EE2A2436403 :=
  (Des.desEnc_of_rounds Des.rounds_example_b).trans (by decide +kernel)

/-- The keys of R163 (b) and (e) differ in parity bits only. -/
theorem Des.keys_example_e : ∀ i, i < 64 → i % 8 ≠ 7 →
    (0x0022446688AACCEE : Block).getMsbD i = (0x0123456789ABCDEF : Block).getMsbD i := by decide

/-- Settles O50: the ciphertexts of (a) and (b) follow from their halves after round 16, that of (e) from (b) because
parity bits are ignored; the rest is the model run on the examples' values. -/
theorem desWorkedExamples : Obligations.DesWorkedExamples := by
  have hparity := (parityBitsIgnored _ _ 0x041262876FEDCBA9 Des.keys_example_e).1
  refine ⟨Des.desEnc_example_a, ?halvesA, ?round1A, ?round2A, Des.rounds_example_a, Des.desEnc_example_b, ?c0, ?d0,
    ?key1, ?key16, ?halvesB, ?round1B, Des.rounds_example_b, ?encC, ?encZeros, ?encOnes,
    hparity.trans Des.desEnc_example_b⟩
  case halvesA | c0 | d0 | halvesB | key1 | key16 => decide +kernel
  case round1A | round2A | round1B => decide +kernel
  case encC | encZeros | encOnes => decide +kernel

end Sys2Proof.Machine

namespace Sys2Proof.Machine
open Sys2Proof.Statements

/-! ## XORHEX (R170 to R172) -/

/-! ### XORHEX and its checks in order (R171) -/

section
variable {cap aLen bLen : Nat} {a b : Str}

theorem xorHexFn_of_capacity (h : cap < aLen ∨ cap < bLen) :
    xorHexFn cap aLen a bLen b = .err .invalidBlockLength := if_pos h

variable (hcap : ¬(cap < aLen ∨ cap < bLen))
include hcap

theorem xorHexFn_of_lengths (h : aLen ≠ bLen) : xorHexFn cap aLen a bLen b = .err .lengthMismatch :=
  (if_neg hcap).trans (if_pos h)

variable (hlen : ¬aLen ≠ bLen)
include hlen

theorem xorHexFn_of_odd (h : aLen % 2 ≠ 0) : xorHexFn cap aLen a bLen b = .err .invalidEncoding :=
  (if_neg hcap).trans ((if_neg hlen).trans (if_pos h))

variable (heven : ¬aLen % 2 ≠ 0)
include heven

theorem xorHexFn_of_not_isHex (h : isHex a = false ∨ isHex b = false) :
    xorHexFn cap aLen a bLen b = .err .invalidEncoding := by
  refine (if_neg hcap).trans ((if_neg hlen).trans ((if_neg heven).trans ?_))
  rcases h with h | h
  · rw [nibbles_eq_none_iff.2 h]
  · rw [nibbles_eq_none_iff.2 h]; cases nibbles a <;> rfl

theorem xorHexFn_of_nibbles {x y : List Nibble} (hx : nibbles a = some x) (hy : nibbles b = some y) :
    xorHexFn cap aLen a bLen b = .ok (hexStr (xorNibbles x y)) := by
  refine (if_neg hcap).trans ((if_neg hlen).trans ((if_neg heven).trans ?_))
  rw [hx, hy]

end

section
variable {a b : Str} {x y : List Nibble} (hx : nibbles a = some x) (hy : nibbles b = some y)
  (hlen : a.length = b.length)
include hx hy hlen

/-- The XOR of two strings of one length has that length (R172). -/
theorem xorHex_length : (hexStr (xorNibbles x y)).length = a.length := by
  simp [nibbles_length hx, nibbles_length hy, hlen]

/-- The XOR of two strings, nibble by nibble (R170, R171). -/
theorem xorHex_getD {i : Nat} (hi : i < a.length) :
    (hexStr (xorNibbles x y)).getD i 0x00#8 = hexChar (nib a i ^^^ nib b i) := by
  rw [hexStr_getD, xorNibbles_getD, nibbles_getD hx, nibbles_getD hy]
  · rwa [nibbles_length hx]
  · rwa [nibbles_length hy, ← hlen]
  · rwa [← hexStr_length, xorHex_length hx hy hlen]

end

/-- Settles O30: the checks by the branches of `xorHexFn`; operands within the capacity are held whole, so the
characters are as many as the lengths say. -/
theorem xorhexResult : Obligations.XorhexResult := by
  intro s hb ⟨_, ha⟩ ⟨_, hb'⟩
  have hfail {e : ErrorKind} (h : s.xorHexResult = .err e) : failsWith .xorhex s e.code :=
    failsWith_of_coreResult (congrArg some h) hb
  split_ifs with hcap hlen hodd hhex
  · exact hfail (xorHexFn_of_capacity hcap)
  · exact hfail (xorHexFn_of_lengths hcap hlen)
  · exact hfail (xorHexFn_of_odd hcap hlen hodd)
  · exact hfail (xorHexFn_of_not_isHex hcap hlen hodd hhex)
  · simp only [not_or, Bool.not_eq_false] at hhex
    obtain ⟨x, hx⟩ := exists_nibbles_of_isHex hhex.1
    obtain ⟨y, hy⟩ := exists_nibbles_of_isHex hhex.2
    have haLen : s.a.ch.length = s.a.len := by omega
    have hch : s.a.ch.length = s.b.ch.length := by omega
    exact ⟨_, completesWith_of_coreResult (congrArg some (xorHexFn_of_nibbles hcap hlen hodd hx hy)) hb,
      (xorHex_length hx hy hch).trans haLen, fun i hi => xorHex_getD hx hy hch (haLen.symm ▸ hi)⟩

/-! ### XORHEX on complete strings (R172) -/

/-- What a successful XORHEX was given and gives (R171). -/
theorem xorHexStr_eq_ok {cap : Nat} {a b o : Str} (h : xorHexStr cap a b = .ok o) :
    (a.length ≤ cap ∧ a.length = b.length ∧ a.length % 2 = 0) ∧
      ∃ x y, nibbles a = some x ∧ nibbles b = some y ∧ o = hexStr (xorNibbles x y) := by
  rcases xorHexFn_cases cap a.length a b.length b with ⟨e, -, he⟩ | ⟨hchecks, x, y, hx, hy, hok⟩
  · cases he.symm.trans h
  · cases hok.symm.trans h
    exact ⟨hchecks, x, y, hx, hy, rfl⟩

/-- Two hex strings of one even length within the capacity have their nibbles' XOR (R171). -/
theorem xorHexStr_of_nibbles {cap : Nat} {a b : Str} {x y : List Nibble} (hcap : a.length ≤ cap)
    (hlen : a.length = b.length) (heven : a.length % 2 = 0) (hx : nibbles a = some x) (hy : nibbles b = some y) :
    xorHexStr cap a b = .ok (hexStr (xorNibbles x y)) :=
  xorHexFn_of_nibbles (by omega) (not_not.2 hlen) (not_not.2 heven) hx hy

/-- A second XORHEX with the same operand gives the first operand back in upper case (R172). -/
theorem xorHexStr_xorHexStr {cap : Nat} {a b o : Str} (h : xorHexStr cap a b = .ok o) :
    xorHexStr cap o b = .ok (upper a) := by
  obtain ⟨⟨hcap, hlen, heven⟩, x, y, hx, hy, rfl⟩ := xorHexStr_eq_ok h
  have hoLen := xorHex_length hx hy hlen
  have hxy : x.length = y.length := by rw [nibbles_length hx, nibbles_length hy, hlen]
  calc xorHexStr cap (hexStr (xorNibbles x y)) b
      = .ok (hexStr (xorNibbles (xorNibbles x y) y)) :=
        xorHexStr_of_nibbles (by omega) (by omega) (by omega) (nibbles_hexStr _) hy
    _ = .ok (upper a) := by rw [xorNibbles_xorNibbles_cancel hxy, hexStr_of_nibbles hx]

/-- Settles O56: a success gives the operands' common length and is undone by the XOR's cancellation; the two fields of
a successful ENCODE are 16 nibbles each and pass XORHEX's checks. -/
theorem xorhexProperties : Obligations.XorhexProperties := by
  refine ⟨fun cap a b o h => ?_, fun cap pin pan o f g hcap h hf hg => ?_⟩
  · obtain ⟨⟨-, hlen, -⟩, x, y, hx, hy, ho⟩ := xorHexStr_eq_ok h
    have hoLen : o.length = a.length := ho ▸ xorHex_length hx hy hlen
    exact ⟨hoLen, hoLen.trans hlen, xorHexStr_xorHexStr h⟩
  · obtain ⟨⟨-, hpin⟩, hwin, f', g', hf', hg', rfl⟩ := encodeStr_eq_ok h
    obtain rfl : f = f' := Option.some.inj (hf.symm.trans hf')
    obtain rfl : g = g' := Option.some.inj (hg.symm.trans hg')
    have hfLen := nibbles_length hf
    have hpinField : (hexStr (pinField f)).length = 16 := by rw [hexStr_length, pinField_length (by omega)]
    have hpanField : (hexStr (panField g)).length = 16 := by
      rw [hexStr_length, panField_length, nibbles_length hg, hwin]
    exact xorHexStr_of_nibbles (by omega) (by omega) (by omega) (nibbles_hexStr _) (nibbles_hexStr _)

end Sys2Proof.Machine

namespace Sys2Proof.Machine
open Sys2Proof.Statements

/-! ## Exceptions (60_exceptions R200 to R225)

No step is stuck after a reset, the error state lasts until the next command, and the codes of the error kinds. -/

/-! ### What every step keeps -/

/-- A turn that waits for the first reset has a next state only after it (R233). -/
theorem ready_of_whenReady_eq_next {s t : State} {f : State → Host.Outcome State Fault Refusal}
    (h : whenReady s f = .next t) : s.ready = true ∧ f s = .next t := by
  cases hready : s.ready with
  | true => exact ⟨rfl, (whenReady_of_ready f hready).symm.trans h⟩
  | false => rw [whenReady_of_not_ready f hready] at h; cases h

section
variable {P : State → Prop} (hexec : ∀ {i : Instr} {s t : State}, P s → exec i s = .next t → P t)
  (hraise : ∀ {s : State}, P s → P (s.raise .illegalCommand))
include hexec hraise

/-- The core's turn waits, runs an instruction, or completes with IllegalCommand (R115, R116). -/
theorem coreTurn_preserves {s t : State} (hs : P s) (ht : coreTurn s = .next t) : P t := by
  rcases coreTurn_cases s with ⟨-, e⟩ | ⟨-, -, e⟩ | ⟨-, -, e⟩ <;> rw [e] at ht
  · cases ht; exact hs
  · cases ht; exact hraise hs
  · exact hexec hs ht

/-- What instructions, IllegalCommand, resets and a new inbox keep, every step keeps (R59, R100). -/
theorem step_preserves (hreset : ∀ {s : State}, P s → P s.applyReset)
    (hinbox : ∀ {s : State} (l : List Event), P s → P (s.setInbox l)) {s t : State} (hs : P s)
    (ht : step s = .next t) : P t := by
  cases hi : s.inbox with
  | nil =>
    rw [step_of_nil hi] at ht
    exact coreTurn_preserves hexec hraise hs (ready_of_whenReady_eq_next ht).2
  | cons e rest =>
    rw [step_of_cons hi] at ht
    cases e with
    | port tr => exact hexec (hinbox rest hs) (ready_of_whenReady_eq_next ht).2
    | core => exact coreTurn_preserves hexec hraise (hinbox rest hs) (ready_of_whenReady_eq_next ht).2
    | reset => cases ht; exact hreset (hinbox rest hs)

end

/-! ### Every step has a next state (R225) -/

/-- Every instruction answers a next state, in every state whatever. -/
theorem exec_exists_next (i : Instr) (s : State) : ∃ t, exec i s = .next t := by
  cases i <;> exact ⟨_, rfl⟩

theorem coreTurn_exists_next (s : State) : ∃ t, coreTurn s = .next t := by
  rcases coreTurn_cases s with ⟨-, e⟩ | ⟨-, -, e⟩ | ⟨-, -, e⟩
  · exact ⟨_, e⟩
  · exact ⟨_, e⟩
  · exact e ▸ exec_exists_next _ s

theorem step_exists_next {s : State} (h : s.ready = true) : ∃ t, step s = .next t := by
  cases hi : s.inbox with
  | nil => exact step_of_ready_of_nil h hi ▸ coreTurn_exists_next s
  | cons e rest =>
    cases e with
    | port tr => exact step_port_of_ready h hi ▸ exec_exists_next _ _
    | core => exact step_core_of_ready h hi ▸ coreTurn_exists_next _
    | reset => exact ⟨_, step_of_cons hi⟩

/-- No instruction takes back that a reset has occurred. -/
theorem exec_ready {i : Instr} {s t : State} (h : exec i s = .next t) : t.ready = s.ready := by
  obtain ⟨-, hready, -, -⟩ := frameOutsideTheBlock i s t h
  exact hready

/-- Once a reset has occurred it stays so (R233). -/
theorem step_ready {s t : State} (h : s.ready = true) (ht : step s = .next t) : t.ready = true :=
  step_preserves (P := fun s => s.ready = true) (fun hs he => (exec_ready he).trans hs) id (fun _ => rfl)
    (fun _ => id) h ht

/-- Settles O8: each agent's turn has a next state, and none of them takes back the reset. -/
theorem everyStepAfterResetHasNextState : Obligations.EveryStepAfterResetHasNextState := by
  intro s h
  obtain ⟨t, ht⟩ := step_exists_next h
  exact ⟨t, ht, step_ready h ht⟩

/-! ### The error state (R214) -/

/-- An error state is a state in phase DONE (R30, R31). -/
theorem State.Inv.quiet_of_err {s : State} (h : s.Inv) (he : s.err = true) : s.busy = false := by
  simpa [h.errDone he] using h.phase

theorem exec_clear_of_quiet {s : State} (hb : s.busy = false) : exec .clear s = .next s.clear :=
  congrArg _ (s.hostWrite_of_quiet State.clear hb)

/-- Outside phase BUSY, CLEAR and every command write but NOP discard the last outcome (R113, R114). -/
theorem exec_endsOutcome {i : Instr} {s t : State} (hb : s.busy = false) (h : exec i s = .next t)
    (hend : endsOutcome i) : t = s.clear ∨ ∃ v, t = s.start v := by
  rcases hend with rfl | ⟨v, rfl, h0⟩
  · cases (exec_clear_of_quiet hb).symm.trans h; exact .inl rfl
  · rcases eq_or_ne v 0x0F#8 with rfl | hF
    · cases ((exec_cmd_clear s).trans (exec_clear_of_quiet hb)).symm.trans h; exact .inl rfl
    · cases (exec_cmd_of_quiet hb h0 hF).symm.trans h; exact .inr ⟨v, rfl⟩

/-- Settles O37: with ERR = 1 the phase is DONE, where the outcome is held but for a start, CLEAR and a reset. -/
theorem errorLastsUntilNextCommand : Obligations.ErrorLastsUntilNextCommand := by
  intro s hinv herr
  have hb := hinv.quiet_of_err herr
  refine ⟨fun i t h hend => ?_, fun i t h hend => ?_, fun rest t hi h => ?_⟩
  · obtain ⟨-, hkeep, hcode, -⟩ := outcomeHeldUntilNextCommand i s t hb h hend
    exact ⟨hkeep.trans herr, hcode⟩
  · rcases exec_endsOutcome hb h hend with rfl | ⟨v, rfl⟩
    · exact ⟨rfl, rfl⟩
    · exact ⟨rfl, rfl⟩
  · cases (step_of_cons hi).symm.trans h
    exact ⟨rfl, rfl⟩

/-! ### The codes of each command (R200) -/

/-- The errors of ENCODE (R122). -/
theorem mem_of_encodeFn_eq_err {pinLen : Nat} {pin : Str} {panLen : Nat} {win : Str} {e : ErrorKind}
    (h : encodeFn pinLen pin panLen win = .err e) :
    e ∈ [ErrorKind.invalidPinLength, .invalidPanLength, .invalidEncoding] := by
  rcases encodeFn_cases pinLen pin panLen win with ⟨e', he, h'⟩ | ⟨-, -, f, g, -, -, h'⟩ <;> cases h'.symm.trans h
  exact he

/-- The errors of DECODE: those of its checks, then those of the recovered length (R123). -/
theorem mem_of_decodeFn_eq_err {blkLen : Nat} {blk : Str} {panLen : Nat} {win : Str} {e : ErrorKind}
    (h : decodeFn blkLen blk panLen win = .err e) :
    e ∈ [ErrorKind.invalidBlockLength, .invalidPanLength, .invalidEncoding] ++
      [.invalidLengthDigit, .pinOutOfRange] := by
  rcases decodeFn_cases blkLen blk panLen win with ⟨e', he, h'⟩ | ⟨-, -, b, g, -, -, h'⟩
  · cases h'.symm.trans h; exact List.mem_append_left _ he
  · rcases pinOfField_cases (xorNibbles b (panField g)) with ⟨e', he, hf⟩ | ⟨l, -, -, -, hf⟩ <;>
      cases (h'.trans hf).symm.trans h
    exact List.mem_append_right _ he

/-- The errors of ENCRYPT and DECRYPT (R141, R142). -/
theorem mem_of_cipherFn_eq_err {f : Keys → List Byte → List Byte} {cap keyLen : Nat} {key : Str} {dataLen : Nat}
    {data : Str} {e : ErrorKind} (h : cipherFn f cap keyLen key dataLen data = .err e) :
    e ∈ [ErrorKind.invalidKeyLength, .invalidBlockLength, .invalidEncoding] := by
  rcases cipherFn_cases f cap keyLen key dataLen data with ⟨e', he, h'⟩ | ⟨-, -, kb, d, -, -, h'⟩ <;>
    cases h'.symm.trans h
  exact he

/-- The errors of XORHEX (R171). -/
theorem mem_of_xorHexFn_eq_err {cap aLen : Nat} {a : Str} {bLen : Nat} {b : Str} {e : ErrorKind}
    (h : xorHexFn cap aLen a bLen b = .err e) :
    e ∈ [ErrorKind.invalidBlockLength, .lengthMismatch, .invalidEncoding] := by
  rcases xorHexFn_cases cap aLen a bLen b with ⟨e', he, h'⟩ | ⟨-, x, y, -, -, h'⟩ <;> cases h'.symm.trans h
  exact he

/-- A result's code is 0 or the code of its error. -/
theorem Result.code_mem {r : Result} {codes : List (BitVec 4)} (h0 : 0x0#4 ∈ codes)
    (herr : ∀ e, r = .err e → e.code ∈ codes) : r.code ∈ codes := by
  cases r with
  | ok o => exact h0
  | err e => exact herr e rfl

/-- The result of an operation row has one of the codes R200 says the row raises. -/
theorem code_mem_codesOf_of_coreResult {i : Instr} {s : State} {r : Result} (h : coreResult i s = some r) :
    r.code ∈ codesOf i := by
  cases i <;> simp only [coreResult, Option.some.injEq, reduceCtorEq] at h <;> subst h
  case encode =>
    have hcodes : ∀ e ∈ [ErrorKind.invalidPinLength, .invalidPanLength, .invalidEncoding],
        e.code ∈ codesOf .encode := by decide
    exact Result.code_mem (by decide) fun e he => hcodes e (mem_of_encodeFn_eq_err he)
  case decode =>
    have hcodes : ∀ e ∈ [ErrorKind.invalidBlockLength, .invalidPanLength, .invalidEncoding] ++
        [.invalidLengthDigit, .pinOutOfRange], e.code ∈ codesOf .decode := by decide
    exact Result.code_mem (by decide) fun e he => hcodes e (mem_of_decodeFn_eq_err he)
  case encrypt | decrypt =>
    have hcodes : ∀ e ∈ [ErrorKind.invalidKeyLength, .invalidBlockLength, .invalidEncoding],
        e.code ∈ codesOf .encrypt := by decide
    exact Result.code_mem (by decide) fun e he => hcodes e (mem_of_cipherFn_eq_err he)
  case xorhex =>
    have hcodes : ∀ e ∈ [ErrorKind.invalidBlockLength, .lengthMismatch, .invalidEncoding],
        e.code ∈ codesOf .xorhex := by decide
    exact Result.code_mem (by decide) fun e he => hcodes e (mem_of_xorHexFn_eq_err he)
  all_goals exact List.mem_singleton_self _

/-- In phase BUSY an operation row completes with its result (R115). -/
theorem exec_operation_of_busy {i : Instr} {s t : State} (hop : i.isOperation = true) (hb : s.busy = true)
    (h : exec i s = .next t) : ∃ r, coreResult i s = some r ∧ t = s.complete r := by
  obtain ⟨r, hr⟩ := Option.isSome_iff_exists.1 ((coreResult_isSome i s).trans hop)
  cases (exec_of_coreResult_of_busy hr hb).symm.trans h
  exact ⟨r, hr, rfl⟩

/-- Settles O58: the codes are the model's, and a completion leaves in ERRCODE the code of the command's result. -/
theorem errorCodes : Obligations.ErrorCodes := by
  refine ⟨by decide, fun i s t hop hb h => ?_⟩
  obtain ⟨r, hr, rfl⟩ := exec_operation_of_busy hop hb h
  exact ⟨code_mem_codesOf_of_coreResult hr, r.code_eq_zero_iff⟩

/-! ### CipherFailure (R209) -/

/-- No result of the core has CipherFailure's code (R147). -/
theorem code_ne_nine_of_coreResult {i : Instr} {s : State} {r : Result} (h : coreResult i s = some r) :
    r.code ≠ 0x9#4 := by
  intro h9
  have hlegal := Result.legalErrcode_code (coreResult_ne_cipherFailure h)
  rw [h9] at hlegal
  exact absurd hlegal (by decide)

/-- An instruction keeps ERRCODE, empties it, or completes with the code of a result. -/
theorem exec_errcode_ne_nine {i : Instr} {s t : State} (hs : s.errcode ≠ 0x9#4) (h : exec i s = .next t) :
    t.errcode ≠ 0x9#4 := by
  rcases exec_cases h with (rfl | ⟨-, v, rfl⟩ | ⟨-, rfl⟩) | ⟨-, hw⟩ | ⟨-, r, hr, rfl⟩
  · exact hs
  · exact hs
  · exact hs
  · rcases hw with ⟨v, -, rfl⟩ | ⟨v, -, rfl⟩ | ⟨v, -, rfl⟩ | ⟨v, -, rfl⟩ | ⟨v, -, rfl⟩ | ⟨-, rfl⟩ |
      ⟨v, -, -, -, rfl⟩ <;> simp [hs]
  · exact code_ne_nine_of_coreResult hr

/-- Settles O59: instructions keep ERRCODE away from 9, and IllegalCommand and a reset set it to other values. -/
theorem cipherFailureNeverRaised : Obligations.CipherFailureNeverRaised :=
  ⟨fun _ _ _ => exec_errcode_ne_nine,
   fun _ _ => step_preserves (P := fun s => s.errcode ≠ 0x9#4) exec_errcode_ne_nine
    (fun _ => by simp [ErrorKind.code]) (fun _ => by simp) (fun _ => id)⟩

end Sys2Proof.Machine

namespace Sys2Proof.Machine
open Sys2Proof.Statements

/-! ## Reset (70_reset_and_hazards R231 to R233)

A reset has a meaning in every state, and the state it leaves depends on NBLK, the byte last read and the steps to come
alone. -/

/-! ### What a reset leaves (R231, R232) -/

/-- A reset is accepted in every phase and before the first reset too (R231, R233). -/
theorem step_reset {s : State} {rest : List Event} (hi : s.inbox = .reset :: rest) :
    step s = .next (s.setInbox rest).applyReset := step_of_cons hi

@[simp] theorem State.applyReset_statusByte (s : State) : s.applyReset.statusByte = 0x00#8 := by
  simp [State.statusByte]

theorem State.applyReset_operandsEmpty (s : State) : s.applyReset.operandsEmpty := ⟨rfl, rfl, rfl, rfl, rfl⟩

/-- A reset looks only at what is no element of PB0's state (log entry 13). -/
theorem State.applyReset_congr {s t : State} (hcfg : s.cfg = t.cfg) (hrdata : s.rdata = t.rdata)
    (hinbox : s.inbox = t.inbox) : s.applyReset = t.applyReset := by
  simp only [State.applyReset, hcfg, hrdata, hinbox]

/-- After a first reset and outside phase BUSY, CLEAR answers what a reset leaves (R113, R231). -/
theorem exec_clear_eq_applyReset {s : State} (hready : s.ready = true) (hb : s.busy = false) :
    exec .clear s = .next s.applyReset :=
  (exec_clear_of_quiet hb).trans (congrArg _ (State.clear_eq_applyReset hready))

/-- Settles O5: the step answers the reset state's values, and outside phase BUSY CLEAR has the same effect. -/
theorem resetStepClearsEverything : Obligations.ResetStepClearsEverything := fun s rest hi =>
  ⟨⟨_, step_reset hi, rfl, rfl, rfl, rfl, rfl, rfl, rfl, rfl, rfl, rfl, rfl, State.applyReset_statusByte _, rfl, rfl⟩,
   fun hready hb => (step_reset hi).trans (exec_clear_eq_applyReset (s := s.setInbox rest) hready hb).symm⟩

/-- Settles O11: the reset of any state meets the invariant. -/
theorem resetReachesInvariant : Obligations.ResetReachesInvariant := fun s rest hi =>
  ⟨_, step_reset hi, (s.setInbox rest).applyReset_inv⟩

/-- Settles O6: a reset ends phase BUSY, so the core's turn after it waits, and it looks at nothing a command has. -/
theorem resetAbortsCommand : Obligations.ResetAbortsCommand := by
  intro s rest _ hi
  have hwait : step (s.setInbox (.core :: rest)).applyReset =
      .next ((s.setInbox (.core :: rest)).applyReset.setInbox rest) :=
    (step_core_of_ready rfl rfl).trans (coreTurn_of_quiet rfl)
  refine ⟨_, step_reset hi, rfl, rfl, rfl, rfl, rfl, State.applyReset_operandsEmpty _, hwait, ?_⟩
  intro s' hcfg hrdata hinbox
  exact (step_reset (hinbox.trans hi)).trans (congrArg _ (State.applyReset_congr hcfg hrdata rfl))

/-! ### The refusal before the first reset (R233) -/

/-- A turn that never refuses of itself is refused exactly before the first reset. -/
theorem whenReady_eq_refused_iff {s : State} {f : State → Host.Outcome State Fault Refusal}
    (hf : ∃ t, f s = .next t) : whenReady s f = .refused .beforeReset ↔ s.ready = false := by
  obtain ⟨t, ht⟩ := hf
  cases hready : s.ready with
  | true => simp [whenReady_of_ready f hready, ht]
  | false => simp [whenReady_of_not_ready f hready]

/-- A host step or the core's is refused exactly before the first reset, a reset never. -/
theorem takeEvent_eq_refused_iff (e : Event) (s : State) :
    takeEvent e s = .refused .beforeReset ↔ s.ready = false ∧ e ≠ .reset := by
  cases e with
  | port tr => exact (whenReady_eq_refused_iff (exec_exists_next (decodePort tr) s)).trans (by simp)
  | core => exact (whenReady_eq_refused_iff (coreTurn_exists_next s)).trans (by simp)
  | reset => simp [takeEvent, resetTurn]

/-- Settles O7: with an empty inbox the core has its turn, and otherwise the first event is taken. -/
theorem refusedOnlyBeforeReset : Obligations.RefusedOnlyBeforeReset := by
  intro s
  cases hi : s.inbox with
  | nil => rw [step_of_nil hi]; exact (whenReady_eq_refused_iff (coreTurn_exists_next s)).trans (by simp)
  | cons e rest => rw [step_of_cons hi, takeEvent_eq_refused_iff]; simp

end Sys2Proof.Machine
